-- ==== Sys2Proof/Word.lean ====
section
/-! DEFINITION. Word.lean: the widths the zone line and the time base are written in. -/

namespace Sys2Proof

/-- One body octet of a frame (R142). -/
abbrev Byte := BitVec 8

/-- A two-octet field, a stored item, or one of the 16-bit counts. -/
abbrev Word16 := BitVec 16

/-- A value of the time base TB, a 32-bit count of milliseconds (R8). -/
abbrev Time := BitVec 32

/-- A 12-bit conversion code of the sample unit (R94). -/
abbrev AdcCode := BitVec 12

/-- A line address, the 6-bit source and target fields of a frame (R142): zone numbers 1 to 60, panels 61 and 62,
63 the setup address, and 0 for all stations in a target. -/
abbrev Addr := BitVec 6

/-- A loading station, 1 to 15 (R21). -/
abbrev Station := BitVec 4

end Sys2Proof
end

