-- ==== Sys2Proof/Syntax.lean ====
section
/-! DEFINITION. Syntax.lean: the frames of the zone line and the commands of the block, one constructor for each row of
spec/opcode_table.json. -/

namespace Sys2Proof

/-- The sixteen frame kinds, in the order of their codes 0 to 15 (R144). -/
inductive FrameKind where
  | stop | go | pass | recall | answer | call | decline | state
  | notice | reply | ask | clear | setupEnable | setupWrite | setupRead | reserved
deriving DecidableEq, Repr

/-- A frame as the blocks of a node see it: the fields of R142 but for start, length, check, reply slot and end. -/
structure Frame where
  kind   : FrameKind
  source : Addr
  target : Addr
  body   : List Byte
deriving DecidableEq, Repr

/-- A complete frame as it stood on the line, with the body length field and the check field it carried (R142). -/
structure LineFrame where
  frame  : Frame
  length : BitVec 5
  check  : Word16
deriving DecidableEq, Repr

/-- The six octets of a STATE body (R66). -/
structure StateBody where
  service  : Byte
  flags    : Byte
  free     : Byte
  queue    : Byte
  expected : Byte
  waited   : Byte
deriving DecidableEq, Repr

/-- The inlets of a zone (R1). -/
inductive Inlet where
  | one | two
deriving DecidableEq, Repr

/-- The latched faults, in the order of their notice codes 1 to 5 (R153). -/
inductive FaultKind where
  | jam | exitStuck | overfull | duplicateZone | probe
deriving DecidableEq, Repr

/-- The commands: events at the field pins, expiries of timers, events on the zone line and frames received, one
constructor for each row of the table. Eyes, buttons and the other inputs are given by their filtered events. -/
inductive Instr where
  -- resets
  | powerReset
  | resetnAsserted
  | pinReset
  -- field pins
  | entryEyeBlocked (inlet : Inlet)
  | entryEyeClear (inlet : Inlet)
  | exitEyeBlocked
  | exitEyeClear
  | rackFullPress
  | rackEmptyPress
  | stationOpened
  | stationClosed
  | tagRead (value : Word16)
  | estopActive
  | estopReleased
  | setupButtonPress
  -- timers
  | startHoldExpiry
  | quietTimerExpiry
  | estopReleaseExpiry
  | stopRepeatExpiry
  | tagReadWindowExpiry
  | arrivalWindowExpiry (index : Nat)
  | holdOffExpiry
  | diverterTravelExpiry
  | releaseLimitExpiry
  | runOnExpiry
  | neighbourSilenceExpiry (zone : Addr)
  | statePeriodExpiry
  | sampleCompletion (probe current : AdcCode)
  | callRepeatExpiry (serial : Byte)
  | callExpiry (station : Station) (serial : Byte)
  | noticeRepeatExpiry (kind : FaultKind)
  | setupWindowExpiry
  | writeCycleCompletion
  -- the zone line
  | lineReleased
  | frameSendStart
  | arbitrationLost
  | selfCheckError
  | broadcastSent
  | replySlotRead (ack hold : Bool)
  | insertionError
  | abortMark
  | receiveError (frame : LineFrame)
  | frameIgnored (frame : Frame)
  -- frames received
  | stopReceived (source : Addr)
  | goReceived (source : Addr)
  | passReceived (source target : Addr) (body : List Byte)
  | recallReceived (source target : Addr) (serial : Byte)
  | stateReceived (source : Addr) (body : StateBody)
  | callReceived (source : Addr) (station serial : Byte)
  | answerReceived (source : Addr) (station serial : Byte) (tag : Word16)
  | declineReceived (source : Addr) (station serial : Byte)
  | noticeReceived (source : Addr) (kind detail : Byte) (tag value : Word16)
  | replyReceived (source target : Addr) (body : List Byte)
  | clear (source target : Addr) (code : Byte)
  | askStatus (source target : Addr) (index : Byte)
  | askCounts (source target : Addr) (index : Byte)
  | askQueue (source target : Addr) (index : Byte)
  | askExpected (source target : Addr) (index : Byte)
  | askCalls (source target : Addr) (index : Byte)
  | askNeighbour (source target : Addr) (index : Byte)
  | askRunning (source target : Addr) (index : Byte)
  | askRestart (source target : Addr) (index : Byte)
  | setupEnable (source target : Addr)
  | setupWrite (source target : Addr) (item : Byte) (value : Word16)
  | setupRead (source target : Addr) (item : Byte)
  | lineBusy
  | askTopicOutsideRange (source target : Addr) (topic index : Byte)
deriving DecidableEq, Repr

end Sys2Proof
end

