-- ==== Sys2Proof/WellFormed.lean ====
section
/-! DEFINITION. WellFormed.lean: what an operand of a command may be, where its type alone does not say it. -/

namespace Sys2Proof

/-- The source field of a frame names its sender and is never 0 (R142). -/
abbrev sourceOk (source : Addr) : Bool := source != 0

/-- The five body lengths of a PASS (R144). -/
abbrev passLengthOk (n : Nat) : Bool := n == 9 || n == 13 || n == 17 || n == 21 || n == 25

/-- A command as the spec gives it: sources are addresses, a PASS body and a REPLY body have a length their kind
allows (R144), a complete frame carries as many octets as its length field says (R142), an ignored frame has a body
the length field can give, and the topic of an out-of-range ASK lies outside 0 to 7 (R155). -/
abbrev Instr.wellFormed : Instr → Bool
  | .receiveError f => f.frame.body.length == f.length.toNat && sourceOk f.frame.source
  | .frameIgnored f => f.body.length ≤ 28 && sourceOk f.source
  | .stopReceived source | .goReceived source => sourceOk source
  | .passReceived source _ body => sourceOk source && passLengthOk body.length
  | .recallReceived source _ _ | .stateReceived source _ => sourceOk source
  | .callReceived source _ _ | .declineReceived source _ _ | .answerReceived source _ _ _ => sourceOk source
  | .noticeReceived source _ _ _ _ => sourceOk source
  | .replyReceived source _ body => sourceOk source && body.length == 28
  | .clear source _ _ | .askStatus source _ _ | .askCounts source _ _ | .askQueue source _ _
  | .askExpected source _ _ | .askCalls source _ _ | .askNeighbour source _ _ | .askRunning source _ _
  | .askRestart source _ _ | .setupEnable source _ | .setupWrite source _ _ _
  | .setupRead source _ _ => sourceOk source
  | .askTopicOutsideRange source _ topic _ => sourceOk source && 7 < topic.toNat
  | .powerReset | .resetnAsserted | .pinReset | .entryEyeBlocked _ | .entryEyeClear _ | .exitEyeBlocked
  | .exitEyeClear | .rackFullPress | .rackEmptyPress | .stationOpened | .stationClosed | .tagRead _
  | .estopActive | .estopReleased | .setupButtonPress | .startHoldExpiry | .quietTimerExpiry
  | .estopReleaseExpiry | .stopRepeatExpiry | .tagReadWindowExpiry | .arrivalWindowExpiry _ | .holdOffExpiry
  | .diverterTravelExpiry | .releaseLimitExpiry | .runOnExpiry | .neighbourSilenceExpiry _ | .statePeriodExpiry
  | .sampleCompletion _ _ | .callRepeatExpiry _ | .callExpiry _ _ | .noticeRepeatExpiry _ | .setupWindowExpiry
  | .writeCycleCompletion | .lineReleased | .frameSendStart | .arbitrationLost | .selfCheckError | .broadcastSent
  | .replySlotRead _ _ | .insertionError | .abortMark | .lineBusy => true

end Sys2Proof
end

