-- ==== Sys2Proof/Decode.lean ====
section
/-! DEFINITION. Decode.lean: the commands as words. No row of spec/opcode_table.json gives its command any bits (the
reader's count of rows with fixed bits is 0), so no word spells a command. -/

namespace Sys2Proof

/-- The command a word of the table's bits spells. The table gives bits to no row, so every word is refused. -/
def decodeTableWord (_nbits _w : Nat) : Option Instr := none

end Sys2Proof
end

