-- ==== Sys2Proof/Machine/State.lean ====
section
/-! DEFINITION. Machine/State.lean: the state of one K60, block by block as the introduction's block diagram has it, and
its values after a POWER reset of a node in the factory state. -/

namespace Sys2Proof.Machine

/-! ## The values the spec names -/

/-- The service states (R9 to R16). -/
inductive Service where
  | unconfigured | recovering | serving | faulted
deriving DecidableEq, Repr

/-- The roles, in the order of item 2's codes (R5, R157). -/
inductive Role where
  | feed | merge | load | wash | sort | unload | spur
deriving DecidableEq, Repr

/-- The sides, in the order of item 3's codes (R4, R157). -/
inductive Side where
  | wash | return
deriving DecidableEq, Repr

/-- What a rack is believed to hold (R21). -/
inductive Content where
  | empty | soiled | clean | reject | unknown
deriving DecidableEq, Repr

/-- The verdict of a stage result (R22). -/
inductive Verdict where
  | pending | met | short | probeLost
deriving DecidableEq, Repr

/-- The exit states (R46). -/
inductive ExitState where
  | closed | offering | switching | releasing
deriving DecidableEq, Repr

/-- The drive states (R59). -/
inductive DriveState where
  | off | run
deriving DecidableEq, Repr

/-- The outlets by number (R1): at a SORT one is CLEAN, two REWASH and three REJECT, at a SPUR one is ONWARD and
two STATION. -/
inductive Outlet where
  | one | two | three
deriving DecidableEq, Repr

/-- The merge modes (R83). -/
inductive MergeMode where
  | alternate | priority
deriving DecidableEq, Repr

/-- Whether a neighbour is being heard (R63). -/
inductive Presence where
  | present | absent
deriving DecidableEq, Repr

/-- The line states (R141). -/
inductive LineState where
  | busy | released
deriving DecidableEq, Repr

/-- What LI drives in the reply slot of the frame it received last (R148): nothing, the ACK bit or the HOLD bit. -/
inductive Slot where
  | nothing | ack | hold
deriving DecidableEq, Repr

/-- The three kinds of reset (R161). -/
inductive ResetCause where
  | power | pin | remote
deriving DecidableEq, Repr

/-- The outcome of a judgement at the sort (R109). -/
inductive Outcome where
  | pass | fail
deriving DecidableEq, Repr

/-- The items of the setup store, in the order of their numbers 1 to 35 (R157). -/
inductive Item where
  | zoneNumber | role | side | capacity | upstream1 | upstream2
  | outlet1 | position1 | outlet2 | position2 | outlet3 | position3
  | mergeMode | arrivalWindow | releaseLimit | diverterTravel | runOn | quietTime | tagReader
  | samplePeriod | tLo | tHi | iSpan | iJam | stage | requiredCredit | tMin | tFull
  | requiredStages | maximumPasses | station | targetEmpties | downstreamStations | cleanRequired | lock
deriving DecidableEq, Repr

/-- The notices with their codes 1 to 5 and 8 to 16 (R153). -/
inductive NoticeKind where
  | fault (kind : FaultKind)
  | lost | stray | removed | tagChanged | rejected | surplus | neighbourLost | lineDrop | unloadRefused
deriving DecidableEq, Repr

/-- A running timer: its start taken from TB, and its duration in milliseconds (R8). A timer that is not running is
`none` in an `Option Timer`. -/
structure Timer where
  start    : Time
  duration : Nat
deriving DecidableEq, Repr

/-! ## Records (chapter 2) -/

/-- A stage result (R22). -/
structure StageResult where
  stage     : Nat
  credit    : Nat
  verdict   : Verdict
  faultSeen : Bool
deriving DecidableEq, Repr

/-- The key of a call: its station and its call serial (R122). -/
structure CallKey where
  station : Station
  serial  : Byte
deriving DecidableEq, Repr

/-- A rack record (R21). -/
structure RackRecord where
  tag     : Option (BitVec 12)
  content : Content
  origin  : Option Station
  washes  : Nat
  bound   : Option CallKey
  results : List StageResult
deriving DecidableEq, Repr

/-- An entry of the expected list (R28). The window is `none` while a halt has stopped it (R18). -/
structure ExpectedEntry where
  record   : RackRecord
  upstream : Addr
  serial   : Byte
  window   : Option Timer
deriving DecidableEq, Repr

/-! ## The blocks -/

/-- A frame waiting in the transmit list or being sent, with its attempt count, and for a STATE being sent the
body kept as its replacement (R145). -/
structure TxEntry where
  frame       : Frame
  attempts    : Nat
  sending     : Bool
  replacement : Option Frame
deriving DecidableEq, Repr

/-- LI (R141). The transmit list is kept in age order, oldest first. `awaitRelease` says that the node waits for the
line to be released before it can receive a frame (R141, R143); `slot` is what it drives in the reply slot, and
`aborting` says that it drives the abort mark after a self-check error (R146). -/
structure LineInterface where
  tx            : List TxEntry
  line          : LineState
  recessiveRun  : Nat
  receiveErrors : Word16
  lineDrops     : Word16
  awaitRelease  : Bool
  slot          : Slot
  aborting      : Bool
deriving DecidableEq, Repr

/-- ZQ (chapter 2): the zone queue, head first, the expected list, oldest first, the tag-read window, and the filtered
levels of the eyes, true for blocked (R2). -/
structure ZoneQueue where
  queue     : List RackRecord
  expected  : List ExpectedEntry
  tagWindow : Option Timer
  eye1      : Bool
  eye2      : Bool
  eyeX      : Bool
deriving DecidableEq, Repr

/-- EX (R46). -/
structure ExitController where
  exit        : ExitState
  outlet      : Option Outlet
  serial      : Option Byte
  lastSerial  : Byte
  position    : BitVec 2
  settled     : Bool
  withdrawn   : Bool
  holdOff     : Option Timer
  holdOffZone : Option Addr
  travel      : Option Timer
  release     : Option Timer
  gate        : Bool
deriving DecidableEq, Repr

/-- DC (R59, R60, R62). -/
structure DriveController where
  drive : DriveState
  runOn : Option Timer
  skip  : Nat
  high  : Nat
deriving DecidableEq, Repr

/-- An entry of the neighbour table (R63). -/
structure Neighbour where
  zone      : Addr
  last      : Option StateBody
  lastHeard : Option Time
  presence  : Presence
  silence   : Option Timer
deriving DecidableEq, Repr

/-- NT (R63, R67): the table, the STATE period timer, and the body that NT placed last, against which it sees a
change. -/
structure NeighbourTable where
  entries   : List Neighbour
  period    : Option Timer
  announced : Option StateBody
deriving DecidableEq, Repr

/-- SU (R94). -/
structure SampleUnit where
  period          : Option Timer
  lastProbe       : Option AdcCode
  lastTemperature : Option Int
  lastCurrentCode : Option AdcCode
  lastCurrent     : Option Nat
  faultCount      : Nat
deriving DecidableEq, Repr

/-- MA (R83): the upstream the turn names, and the guard count. The merge mode is a running item. -/
structure MergeArbiter where
  turn  : Inlet
  guard : Nat
deriving DecidableEq, Repr

/-- SL's judgement of the head at the exit (R109). -/
structure Judgement where
  outcome : Outcome
  outlet  : Outlet
  applied : Bool
deriving DecidableEq, Repr

/-- SL (R109). -/
structure SortLogic where
  judgement : Option Judgement
deriving DecidableEq, Repr

/-- An entry of the call list (R122). The timer is the repeat timer at a LOAD and the expiry timer at a SPUR. -/
structure CallEntry where
  key       : CallKey
  lastHeard : Time
  timer     : Option Timer
deriving DecidableEq, Repr

/-- CL (R122, R126, R134): the call list, oldest first; at a LOAD the last call serial and station open; at a SPUR the
call of the offer. -/
structure CallList where
  calls       : List CallEntry
  lastSerial  : Byte
  stationOpen : Bool
  offerCall   : Option CallKey
deriving DecidableEq, Repr

/-- A latched fault: the fields of its NOTICE, kept for the repeats, and its notice repeat timer (R153). -/
structure LatchedFault where
  detail   : Byte
  tag      : Word16
  value    : Word16
  renotice : Option Timer
deriving DecidableEq, Repr

/-- The five fault kinds, each latched or not (R153). -/
structure Faults where
  jam           : Option LatchedFault
  exitStuck     : Option LatchedFault
  overfull      : Option LatchedFault
  duplicateZone : Option LatchedFault
  probe         : Option LatchedFault
deriving DecidableEq, Repr

/-- The counts SN keeps (R155); line drops and receive errors are LI's. -/
structure Counts where
  released : Word16
  strays   : Word16
  lost     : Word16
  removed  : Word16
  surplus  : Word16
  answered : Word16
  rewashes : Word16
  rejects  : Word16
deriving DecidableEq, Repr

/-- Why a node is UNCONFIGURED: the row of R161's table, numbered from 1, and the item reported with it. -/
structure SetupFault where
  row  : Nat
  item : Nat
deriving DecidableEq, Repr

/-- SN (R9, R12, R17, R151 to R154, R161): the service state and the reason for UNCONFIGURED, the filtered ESTOP
level (true for active), the halt terms, their timers, the latched faults, the counts and the reset data. The start
hold's halt term is true while its timer runs (R17). -/
structure StopNotice where
  service      : Service
  reason       : Option SetupFault
  estop        : Bool
  localTerm    : Bool
  stopSet      : List Addr
  startHold    : Option Timer
  quiet        : Option Timer
  stopRepeat   : Option Timer
  estopRelease : Option Timer
  faults       : Faults
  counts       : Counts
  resetCause   : ResetCause
  resets       : Nat
deriving DecidableEq, Repr

/-- One value for each of the 35 items, as it travels in 16 bits, or unset (R157). -/
abbrev Items := Vector (Option Word16) 35

/-- A write cycle in progress (R159): the item, the value it takes at completion, the value written, and where the REPLY
goes and from which address. -/
structure WriteCycle where
  item    : Item
  value   : Option Word16
  written : Word16
  source  : Addr
  target  : Addr
  timer   : Timer
deriving DecidableEq, Repr

/-- SS (R157 to R161): the stored values, the running configuration (every item unset in an UNCONFIGURED node), the
write-enable latch, the write cycle and the setup window. -/
structure SetupStore where
  store       : Items
  running     : Items
  writeEnable : Bool
  cycle       : Option WriteCycle
  window      : Option Timer
deriving DecidableEq, Repr

/-- The whole node: TB, the filtered RESETN level (true for active), the blocks, and the commands that wait, first in
first out. -/
structure State where
  tb      : Time
  resetn  : Bool
  li      : LineInterface
  zq      : ZoneQueue
  ex      : ExitController
  dc      : DriveController
  nt      : NeighbourTable
  su      : SampleUnit
  ma      : MergeArbiter
  sl      : SortLogic
  cl      : CallList
  sn      : StopNotice
  ss      : SetupStore
  pending : List Instr
deriving DecidableEq, Repr

/-- The reasons a step could stop with a fault: none. The spec gives every command an effect, and what goes wrong in a
K60 is latched or counted in its state; safe, since nothing raises it. -/
inductive Fault
deriving DecidableEq, Repr

/-- The reasons a step could refuse a command. -/
inductive Refusal where
  /-- Raised only by an arm of exec for a command that has no meaning yet: none has been left. Safe: the step stops. -/
  | notModelled (mnemonic : String)
deriving DecidableEq, Repr

/-! ## The values after every reset (each chapter's right-hand column) -/

/-- No item set: the factory store (R157), and the running configuration of an UNCONFIGURED node (R161). -/
def Items.unset : Items := Vector.replicate 35 none

/-- R141. -/
def LineInterface.reset : LineInterface :=
  { tx := [], line := .busy, recessiveRun := 0, receiveErrors := 0, lineDrops := 0, awaitRelease := true,
    slot := .nothing, aborting := false }

/-- R2, R45. -/
def ZoneQueue.reset : ZoneQueue :=
  { queue := [], expected := [], tagWindow := none, eye1 := false, eye2 := false, eyeX := false }

/-- R46, with the diverter at outlet 1's position. -/
def ExitController.reset (position1 : BitVec 2) : ExitController :=
  { exit := .closed, outlet := none, serial := none, lastSerial := 0, position := position1, settled := false,
    withdrawn := false, holdOff := none, holdOffZone := none, travel := none, release := none, gate := false }

/-- R59, R60, R62. -/
def DriveController.reset : DriveController := { drive := .off, runOn := none, skip := 0, high := 0 }

/-- R63: an entry before its neighbour has been heard. -/
def Neighbour.unheard (zone : Addr) : Neighbour :=
  { zone := zone, last := none, lastHeard := none, presence := .absent, silence := none }

/-- R63, R67, with the zones of the table. -/
def NeighbourTable.reset (zones : List Addr) : NeighbourTable :=
  { entries := zones.map Neighbour.unheard, period := none, announced := none }

/-- R94. -/
def SampleUnit.reset : SampleUnit :=
  { period := none, lastProbe := none, lastTemperature := none, lastCurrentCode := none, lastCurrent := none,
    faultCount := 0 }

/-- R83. -/
def MergeArbiter.reset : MergeArbiter := { turn := .one, guard := 0 }

/-- R109. -/
def SortLogic.reset : SortLogic := { judgement := none }

/-- R122, R126, R134. -/
def CallList.reset : CallList := { calls := [], lastSerial := 0, stationOpen := false, offerCall := none }

/-- R9, R153: no fault is latched. -/
def Faults.clear : Faults :=
  { jam := none, exitStuck := none, overfull := none, duplicateZone := none, probe := none }

/-- R45, R121, R140, R155. -/
def Counts.zero : Counts :=
  { released := 0, strays := 0, lost := 0, removed := 0, surplus := 0, answered := 0, rewashes := 0, rejects := 0 }

/-- The start hold, 2 s (R20). -/
def startHoldMs : Nat := 2000

/-- R9, R12, R17, R20, R151 to R153, R161: the service state follows from the validity check's reason. -/
def StopNotice.reset (now : Time) (reason : Option SetupFault) (cause : ResetCause) (resets : Nat) : StopNotice :=
  { service := if reason.isNone then .recovering else .unconfigured
    reason := reason
    estop := false
    localTerm := false
    stopSet := []
    startHold := some { start := now, duration := startHoldMs }
    quiet := none
    stopRepeat := none
    estopRelease := none
    faults := Faults.clear
    counts := Counts.zero
    resetCause := cause
    resets := resets }

/-- R157, R160: the store is kept, and the latch, the write cycle and the setup window are cleared. -/
def SetupStore.reset (store running : Items) : SetupStore :=
  { store := store, running := running, writeEnable := false, cycle := none, window := none }

/-- The node right after a POWER reset in the factory state: no item is stored, so it is UNCONFIGURED, for the first row
of R161's table and item 1. -/
def State.reset : State :=
  { tb := 0
    resetn := false
    li := LineInterface.reset
    zq := ZoneQueue.reset
    ex := ExitController.reset 0
    dc := DriveController.reset
    nt := NeighbourTable.reset []
    su := SampleUnit.reset
    ma := MergeArbiter.reset
    sl := SortLogic.reset
    cl := CallList.reset
    sn := StopNotice.reset 0 (some { row := 1, item := 1 }) .power 0
    ss := SetupStore.reset Items.unset Items.unset
    pending := [] }

end Sys2Proof.Machine
end

