-- ==== Sys2Proof/Machine/Octets.lean ====
section
/-! DEFINITION. Machine/Octets.lean: the octets of frame bodies, the codes they carry, the PASS body with the receiver's
clamping, and a frame's bits on the line (R68, R72, R142 to R144). -/

namespace Sys2Proof.Machine

/-! ## Octets -/

/-- The octet of a small number. -/
def octet (n : Nat) : Byte := BitVec.ofNat 8 n

/-- The octet of a line address. -/
def addrOctet (a : Addr) : Byte := a.setWidth 8

/-- The high octet of a two-octet field, sent first. -/
def highOctet (w : Word16) : Byte := w.extractLsb' 8 8

/-- The low octet of a two-octet field. -/
def lowOctet (w : Word16) : Byte := w.extractLsb' 0 8

/-- The two octets of a field, high octet first. -/
def wordOctets (w : Word16) : List Byte := [highOctet w, lowOctet w]

/-- The field of two octets. -/
def ofOctets (high low : Byte) : Word16 := high ++ low

/-- The octet at a place of a body, 0 beyond its end. -/
def octetAt (body : List Byte) (n : Nat) : Byte := body.getD n 0

/-- The two-octet field at a place of a body. -/
def wordAt (body : List Byte) (n : Nat) : Word16 := ofOctets (octetAt body n) (octetAt body (n + 1))

/-! ## Codes -/

/-- The code of a frame kind (R144). -/
def kindCode : FrameKind → Nat
  | .stop => 0 | .go => 1 | .pass => 2 | .recall => 3 | .answer => 4 | .call => 5 | .decline => 6 | .state => 7
  | .notice => 8 | .reply => 9 | .ask => 10 | .clear => 11 | .setupEnable => 12 | .setupWrite => 13
  | .setupRead => 14 | .reserved => 15

/-- The code of a fault kind (R153). -/
def faultCode : FaultKind → Nat
  | .jam => 1 | .exitStuck => 2 | .overfull => 3 | .duplicateZone => 4 | .probe => 5

/-- The code of a notice (R153). -/
def noticeCode : NoticeKind → Nat
  | .fault k => faultCode k
  | .lost => 8 | .stray => 9 | .removed => 10 | .tagChanged => 11 | .rejected => 12 | .surplus => 13
  | .neighbourLost => 14 | .lineDrop => 15 | .unloadRefused => 16

/-- The code of a content value (R144). -/
def contentCode : Content → Nat
  | .empty => 0 | .soiled => 1 | .clean => 2 | .reject => 3 | .unknown => 4

/-- The content of a code: a code that is none of the five gives UNKNOWN (R72). -/
def contentOfCode (b : Byte) : Content :=
  match b.toNat with
  | 0 => .empty | 1 => .soiled | 2 => .clean | 3 => .reject | _ => .unknown

/-- The code of a frozen verdict (R144). No frame carries PENDING (R22), which has no code there. -/
def verdictCode : Verdict → Nat
  | .pending => 0 | .met => 1 | .short => 2 | .probeLost => 3

/-- The verdict of a code: a code that is not MET, SHORT or PROBE_LOST gives SHORT (R72). -/
def verdictOfCode (b : Byte) : Verdict :=
  match b.toNat with
  | 1 => .met | 3 => .probeLost | _ => .short

/-- The code of a service state in STATE (R66) and in STATUS (R155). -/
def serviceCode : Service → Nat
  | .unconfigured => 0 | .recovering => 1 | .serving => 2 | .faulted => 3

/-- The code of an exit state in STATUS (R155). -/
def exitCode : ExitState → Nat
  | .closed => 0 | .offering => 1 | .switching => 2 | .releasing => 3

/-- The code of a drive state in STATUS (R155). -/
def driveCode : DriveState → Nat
  | .off => 0 | .run => 1

/-- The code of a reset cause in STATUS (R155). -/
def causeCode : ResetCause → Nat
  | .power => 0 | .pin => 1 | .remote => 2

/-- The number of an outlet. -/
def outletNumber : Outlet → Nat
  | .one => 1 | .two => 2 | .three => 3

/-- The number of an inlet. -/
def inletNumber : Inlet → Nat
  | .one => 1 | .two => 2

/-- The other inlet of a MERGE. -/
def otherInlet : Inlet → Inlet
  | .one => .two
  | .two => .one

/-- A station in an octet, 1 to 15, or none for any other value (R72, R123). -/
def stationOfOctet (b : Byte) : Option Station :=
  if 1 ≤ b.toNat && b.toNat ≤ 15 then some (b.setWidth 4) else none

/-- The octet of a station, 0 when absent. -/
def stationOctet (st : Option Station) : Byte := (st.getD 0).setWidth 8

/-- A tag in a field, 1 to 4095, or none for any other value (R72). -/
def tagOfWord (w : Word16) : Option (BitVec 12) :=
  if 1 ≤ w.toNat && w.toNat ≤ 4095 then some (w.setWidth 12) else none

/-- The field of a tag, 0 when absent. -/
def tagWord (tag : Option (BitVec 12)) : Word16 := (tag.getD 0).setWidth 16

/-! ## The allowed lengths and targets of each kind (R144) -/

/-- Whether a body length is one R144 allows for the kind. Kind 15 is not tested (R148). -/
def lengthAllowed : FrameKind → Nat → Bool
  | .stop, n | .go, n | .setupEnable, n => n == 0
  | .pass, n => passLengthOk n
  | .recall, n | .clear, n | .setupRead, n => n == 1
  | .answer, n => n == 4
  | .call, n | .decline, n | .ask, n => n == 2
  | .state, n | .notice, n => n == 6
  | .reply, n => n == 28
  | .setupWrite, n => n == 3
  | .reserved, _ => true

/-- Whether an address is a zone number, 1 to 60. -/
def isZone (a : Addr) : Bool := 1 ≤ a.toNat && a.toNat ≤ 60

/-- Whether an address is a panel, 61 or 62. -/
def isPanel (a : Addr) : Bool := a == 61 || a == 62

/-- The setup address. -/
def setupAddr : Addr := 63

/-- Whether a target is one R144 allows for the kind. -/
def targetAllowed : FrameKind → Addr → Bool
  | .stop, a | .go, a | .answer, a | .call, a | .decline, a | .state, a | .notice, a => a == 0
  | .pass, a | .recall, a | .clear, a => isZone a
  | .reply, a => isPanel a
  | .ask, a | .setupEnable, a | .setupWrite, a | .setupRead, a => isZone a || a == setupAddr
  | .reserved, _ => true

/-! ## The PASS body (R68, R144) -/

/-- The four octets of a stage result: stage, credit, verdict. -/
def resultOctets (r : StageResult) : List Byte :=
  [octet r.stage] ++ wordOctets (BitVec.ofNat 16 r.credit) ++ [octet (verdictCode r.verdict)]

/-- The record from the tag to the bound serial, octets 1 to 7 of the PASS body. -/
def recordHeadOctets (r : RackRecord) : List Byte :=
  wordOctets (tagWord r.tag) ++
  [octet (contentCode r.content), stationOctet r.origin, octet r.washes, stationOctet (r.bound.map (·.station)),
   (r.bound.map (·.serial)).getD 0]

/-- The body of a PASS for a record under a serial (R68). -/
def passBody (serial : Byte) (r : RackRecord) : List Byte :=
  [serial] ++ recordHeadOctets r ++ [octet r.results.length] ++ r.results.flatMap resultOctets

/-- A result as received: its stage, credit and verdict, with fault-seen clear (R72). -/
def readResult (stage creditHigh creditLow verdict : Byte) : StageResult :=
  { stage := stage.toNat, credit := (ofOctets creditHigh creditLow).toNat, verdict := verdictOfCode verdict,
    faultSeen := false }

/-- The results of a PASS body from octet 9 on: as many as the body length allows (R144). -/
def readResults : List Byte → List StageResult
  | stage :: high :: low :: verdict :: rest => readResult stage high low verdict :: readResults rest
  | _ => []

/-- Drops a result whose stage lies outside 1 to 4 or was taken from an earlier result of the same PASS (R72). -/
def clampResults (taken : List Nat) : List StageResult → List StageResult
  | [] => []
  | r :: rest =>
    if 1 ≤ r.stage && r.stage ≤ 4 && !taken.contains r.stage then
      r :: clampResults (r.stage :: taken) rest
    else clampResults taken rest

/-- The record of a PASS body, clamped as R72 gives. The result count octet is not used. -/
def clampedRecord (body : List Byte) : RackRecord :=
  { tag := tagOfWord (wordAt body 1)
    content := contentOfCode (octetAt body 3)
    origin := stationOfOctet (octetAt body 4)
    washes := min (octetAt body 5).toNat 3
    bound := (stationOfOctet (octetAt body 6)).map fun st => { station := st, serial := octetAt body 7 }
    results := clampResults [] (readResults (body.drop 9)) }

/-! ## The STATE body (R66) -/

/-- The six octets of a STATE body. -/
def stateOctets (b : StateBody) : List Byte := [b.service, b.flags, b.free, b.queue, b.expected, b.waited]

/-- The STATE body of six octets. -/
def readStateBody (body : List Byte) : StateBody :=
  { service := octetAt body 0, flags := octetAt body 1, free := octetAt body 2, queue := octetAt body 3,
    expected := octetAt body 4, waited := octetAt body 5 }

/-- Whether a STATE body shows a service state of SERVING, the halted flag clear and free places of 1 or more, the test
of R48 and of R134's step 4. -/
def bodyReady (b : StateBody) : Bool :=
  b.service.toNat == serviceCode .serving && !b.flags.getLsbD 0 && b.free != 0

/-- The head-waiting flag of a STATE body. -/
def bodyHeadWaiting (b : StateBody) : Bool := b.flags.getLsbD 2

/-! ## A frame's bits (R142, R143) -/

/-- The bits of a field, most significant first; true is the recessive level, 1. -/
def fieldBits {w : Nat} (v : BitVec w) : List Bool := (List.range w).map v.getMsbD

/-- The bits from kind to the end of the body, over which the check is computed. -/
def checkedBits (f : Frame) (length : BitVec 5) : List Bool :=
  fieldBits (BitVec.ofNat 4 (kindCode f.kind)) ++ fieldBits f.source ++ fieldBits f.target ++ fieldBits length
    ++ f.body.flatMap fieldBits

/-- One bit through the check register of the generator x^16 + x^12 + x^5 + 1. -/
def crcStep (reg : Word16) (bit : Bool) : Word16 :=
  if reg.msb != bit then (reg <<< 1) ^^^ 0x1021 else reg <<< 1

/-- The check of a run of bits: the register starts at all ones and is not inverted at the end (R142). -/
def crc (bits : List Bool) : Word16 := bits.foldl crcStep 0xFFFF

/-- The body length field a sender gives a frame. -/
def lengthField (f : Frame) : BitVec 5 := BitVec.ofNat 5 f.body.length

/-- The bits a sender sends for a frame from the start bit (dominant, 0) to the last check bit, before insertion. -/
def frameBits (f : Frame) : List Bool :=
  [false] ++ checkedBits f (lengthField f) ++ fieldBits (crc (checkedBits f (lengthField f)))

/-- Insertion after a run of `run` bits equal to `last`: after every run of 4 equal bits, inserted bits counted, one bit
of the opposite level, which starts a new run (R143). -/
def insertFrom (last : Bool) (run : Nat) : List Bool → List Bool
  | [] => []
  | b :: rest =>
    if b = last then
      if run = 3 then b :: (!b) :: insertFrom (!b) 1 rest else b :: insertFrom b (run + 1) rest
    else b :: insertFrom b 1 rest

/-- The bits of a run with R143's insertion. The line is recessive before the start bit, and the first bit starts the
first run. -/
def insertBits : List Bool → List Bool
  | [] => []
  | b :: rest => b :: insertFrom b 1 rest

/-- The bits a sender puts on the line for a frame, from the start bit to the last check bit and its insertion. -/
def wireBits (f : Frame) : List Bool := insertBits (frameBits f)

/-- What a receiver makes of the bits of the inserted region (R143). -/
inductive Reception where
  | bits (l : List Bool)
  | insertionError
  | abortMark
deriving DecidableEq, Repr

/-- A received bit put in front of what follows. -/
def Reception.cons (b : Bool) : Reception → Reception
  | .bits l => .bits (b :: l)
  | r => r

/-- Removal after a run of `run` bits equal to `last`: a run of 4 is followed by an inserted bit of the other level. A
fifth recessive bit is an insertion error; a fifth dominant bit is the abort mark when a sixth follows, and an insertion
error when a recessive bit does (R143). -/
def removeFrom (last : Bool) (run : Nat) : List Bool → Reception
  | [] => .bits []
  | b :: rest =>
    if run = 4 then
      if b != last then removeFrom b 1 rest
      else if b then .insertionError
      else match rest with
        | false :: _ => .abortMark
        | _ => .insertionError
    else if b = last then (removeFrom b (run + 1) rest).cons b
    else (removeFrom b 1 rest).cons b

/-- What a receiver makes of the bits from the start bit on. -/
def removeBits : List Bool → Reception
  | [] => .bits []
  | b :: rest => (removeFrom b 1 rest).cons b

/-- The abort mark a sender sends on a self-check error, six dominant bits (R146). -/
def abortBits : List Bool := List.replicate 6 false

/-- Whether a complete frame has a receive error: a body length of 29 to 31, a check that differs from the one computed
over the received fields, or a length not allowed for its kind, in that order (R148). -/
def hasReceiveError (f : LineFrame) : Bool :=
  29 ≤ f.length.toNat || f.check != crc (checkedBits f.frame f.length)
    || !lengthAllowed f.frame.kind f.length.toNat

end Sys2Proof.Machine
end

