-- ==== Sys2Proof/Config.lean ====
section
/-! DEFINITION. Config.lean: what the spec leaves open. Each constant has no body, so that no proof can know its
value and every claim holds whatever it is. -/

namespace Sys2Proof.Config

/-- Which of several items that fail in one row of R161's table is the item reported. The spec gives the order of the
rows and no order within a row (log entry 3). The argument is the list of candidates, by item number. -/
opaque reportedItem : List Nat → Nat

/-- Which of several timers due in one millisecond expires first. The spec says that either may be taken first (R12,
R79 and others; log entry 2). The arguments are the TB value and how many timers are due. -/
opaque firstDue : Time → Nat → Nat

/-- The code the PROBE channel delivers for the sample completed at a TB value, when the time base and not a command
brings that sample about (log entry 4). -/
opaque probeInput : Time → AdcCode

/-- The code the CURRENT channel delivers for the sample completed at a TB value, as for `probeInput`. -/
opaque currentInput : Time → AdcCode

/-- The value field of the REPLY to a SETUP-READ of an item number outside 1 to 35. The spec gives the REPLY the result
UNKNOWN_ITEM and no value (R158; log entry 10). The argument is the item number asked for. -/
opaque unknownItemValue : Byte → Word16

end Sys2Proof.Config
end

