-- ==== Sys2Proof/Machine/Setup.lean ====
section
/-! DEFINITION. Machine/Setup.lean: the items of the setup store, the running values read from them, and the validity
check made at every reset (R5, R157, R161). -/

namespace Sys2Proof.Machine

/-! ## The table of items (R157) -/

/-- The items in the order of their numbers 1 to 35. -/
def itemList : List Item :=
  [.zoneNumber, .role, .side, .capacity, .upstream1, .upstream2, .outlet1, .position1, .outlet2, .position2,
   .outlet3, .position3, .mergeMode, .arrivalWindow, .releaseLimit, .diverterTravel, .runOn, .quietTime,
   .tagReader, .samplePeriod, .tLo, .tHi, .iSpan, .iJam, .stage, .requiredCredit, .tMin, .tFull,
   .requiredStages, .maximumPasses, .station, .targetEmpties, .downstreamStations, .cleanRequired, .lock]

/-- An item's place in the store, its number less 1. -/
def itemIndex : Item → Fin 35
  | .zoneNumber => 0 | .role => 1 | .side => 2 | .capacity => 3 | .upstream1 => 4 | .upstream2 => 5
  | .outlet1 => 6 | .position1 => 7 | .outlet2 => 8 | .position2 => 9 | .outlet3 => 10 | .position3 => 11
  | .mergeMode => 12 | .arrivalWindow => 13 | .releaseLimit => 14 | .diverterTravel => 15 | .runOn => 16
  | .quietTime => 17 | .tagReader => 18 | .samplePeriod => 19 | .tLo => 20 | .tHi => 21 | .iSpan => 22
  | .iJam => 23 | .stage => 24 | .requiredCredit => 25 | .tMin => 26 | .tFull => 27 | .requiredStages => 28
  | .maximumPasses => 29 | .station => 30 | .targetEmpties => 31 | .downstreamStations => 32
  | .cleanRequired => 33 | .lock => 34

/-- An item's number. -/
def itemNumber (i : Item) : Nat := (itemIndex i).val + 1

/-- The item of a number, if it lies within 1 to 35. -/
def itemOfNumber (n : Nat) : Option Item := if n = 0 then none else itemList[n - 1]?

/-- The lowest and the highest value of an item. -/
def itemBounds : Item → Nat × Nat
  | .zoneNumber | .upstream1 | .upstream2 | .outlet1 | .outlet2 | .outlet3 => (1, 60)
  | .role => (0, 6)
  | .side | .mergeMode | .tagReader | .cleanRequired => (0, 1)
  | .capacity => (1, 6)
  | .position1 | .position2 | .position3 => (0, 3)
  | .arrivalWindow => (1, 30)
  | .releaseLimit => (1, 10)
  | .diverterTravel => (0, 2000)
  | .runOn => (0, 10)
  | .quietTime => (2, 30)
  | .samplePeriod => (100, 1000)
  | .tLo | .tHi | .tMin | .tFull => (500, 2500)
  | .iSpan => (500, 20000)
  | .iJam => (0, 20000)
  | .stage => (1, 4)
  | .requiredCredit => (0, 65533)
  | .requiredStages => (0, 15)
  | .maximumPasses | .targetEmpties => (1, 3)
  | .station => (1, 15)
  | .downstreamStations => (0, 32767)
  | .lock => (1, 1)

/-- Whether a value lies within an item's range; the sample period is a multiple of 100 as well. -/
def itemInRange (i : Item) (v : Nat) : Bool :=
  (itemBounds i).1 ≤ v && v ≤ (itemBounds i).2 && (i != .samplePeriod || v % 100 == 0)

/-- The default of an item, where the table gives one. -/
def itemDefault : Item → Option Word16
  | .position1 | .position2 | .position3 => some 0
  | .arrivalWindow => some 8
  | .releaseLimit => some 4
  | .diverterTravel => some 600
  | .runOn => some 3
  | .quietTime => some 6
  | .samplePeriod => some 200
  | .maximumPasses => some 2
  | _ => none

/-- The 16-bit value that stands for unset (R157). -/
def unsetCode : Word16 := 65535

/-- The 16-bit value that, written, stores an item's default (R157). -/
def defaultCode : Word16 := 65534

/-! ## Reading and changing a set of items -/

/-- The value of an item, or none when it is unset. -/
def itemValue (c : Items) (i : Item) : Option Word16 := c.get (itemIndex i)

/-- A set of items with one of them changed. -/
def setItem (c : Items) (i : Item) (v : Option Word16) : Items := c.set (itemIndex i) v

/-- An item as it travels: its value, or 65535 when it is unset. -/
def itemCode (c : Items) (i : Item) : Word16 := (itemValue c i).getD unsetCode

/-- The value of an item as a number, 0 when it is unset. -/
def itemNat (c : Items) (i : Item) : Nat := ((itemValue c i).map BitVec.toNat).getD 0

/-- The zone an item names, or none when it is unset. -/
def itemZone (c : Items) (i : Item) : Option Addr := (itemValue c i).map (·.setWidth 6)

/-- A time item given in seconds, in milliseconds. -/
def itemSeconds (c : Items) (i : Item) : Nat := 1000 * itemNat c i

/-- A temperature item in tenths of a degree: it travels with 1,000 added (R157). -/
def itemTenths (c : Items) (i : Item) : Int := (itemNat c i : Int) - 1000

/-- The role (item 2). -/
def runningRole (c : Items) : Role :=
  match itemNat c .role with
  | 0 => .feed
  | 1 => .merge
  | 2 => .load
  | 3 => .wash
  | 4 => .sort
  | 5 => .unload
  | _ => .spur

/-- The side (item 3). -/
def runningSide (c : Items) : Side := if itemNat c .side = 0 then .wash else .return

/-- The merge mode (item 13). -/
def runningMergeMode (c : Items) : MergeMode := if itemNat c .mergeMode = 0 then .alternate else .priority

/-- The station (item 31), 1 to 15, or none when it is unset. -/
def runningStation (c : Items) : Option Station := (itemValue c .station).map (·.setWidth 4)

/-- The stages of the required stage set: bit k − 1 names stage k (item 29). -/
def requiredStageList (c : Items) : List Nat :=
  [1, 2, 3, 4].filter fun k => (itemNat c .requiredStages).testBit (k - 1)

/-- Whether a station is in the downstream station set: bit k − 1 names station k, and an unset set is empty
(item 33, R134). -/
def inDownstreamSet (c : Items) (st : Station) : Bool :=
  st != 0 && (itemNat c .downstreamStations).testBit (st.toNat - 1)

/-- The item that names the zone of an outlet. -/
def outletItem : Outlet → Item
  | .one => .outlet1
  | .two => .outlet2
  | .three => .outlet3

/-- The zone configured for an outlet (R1). -/
def outletZone (c : Items) (o : Outlet) : Option Addr := itemZone c (outletItem o)

/-- The diverter position configured for an outlet (R3). -/
def outletPosition (c : Items) (o : Outlet) : BitVec 2 :=
  BitVec.ofNat 2 (itemNat c (match o with | .one => .position1 | .two => .position2 | .three => .position3))

/-- The upstream zone of an inlet. Only a MERGE has an inlet 2 (R1), and an item the role does not use is ignored
(R161). -/
def inletZone (c : Items) : Inlet → Option Addr
  | .one => itemZone c .upstream1
  | .two => if runningRole c = .merge then itemZone c .upstream2 else none

/-- The diverter position after a reset: outlet 1's, or 0 when outlet 1 is unset (R3). -/
def resetPosition (c : Items) : BitVec 2 := if (outletZone c .one).isSome then outletPosition c .one else 0

/-- The zones of the neighbour table: each distinct zone of upstream 1, upstream 2 and outlets 1 to 3, in that order
(R63). -/
def neighbourZones (c : Items) : List Addr :=
  ([Item.upstream1, .upstream2, .outlet1, .outlet2, .outlet3].filterMap (itemZone c)).foldl
    (fun zs z => if z ∈ zs then zs else zs ++ [z]) []

/-- Whether the node is locked (R157). -/
def storeLocked (c : Items) : Bool := (itemValue c .lock).isSome

/-! ## Loading and checking (R161) -/

/-- The store as it is loaded: an unset item that has a default is loaded as its default. -/
def loadedItems (store : Items) : Items :=
  ⟨(List.zipWith (fun (v : Option Word16) i => v.or (itemDefault i)) store.toList itemList).toArray, by
    simp [itemList]⟩

/-- The items that R5 requires of a role beyond the common ones, but for those with a default. -/
def requiredItems : Role → List Item
  | .feed => [.outlet1]
  | .merge => [.upstream1, .upstream2, .outlet1, .mergeMode]
  | .load => [.outlet1, .station, .targetEmpties]
  | .wash => [.outlet1, .tLo, .tHi, .stage, .requiredCredit, .tMin, .tFull]
  | .sort => [.outlet1, .outlet2, .outlet3, .requiredStages]
  | .unload => [.outlet1, .cleanRequired]
  | .spur => [.outlet1, .outlet2, .station]

/-- The items of a list that are unset. -/
def unsetItems (c : Items) (is : List Item) : List Item := is.filter fun i => (itemValue c i).isNone

/-- The items at fault in a WASH zone's thresholds, which must satisfy T_lo < T_hi and T_lo ≤ T_min < T_full ≤ T_hi
(R5). -/
def thresholdItems (c : Items) : List Item :=
  let n := itemNat c
  if n .tHi ≤ n .tLo then [.tLo]
  else if n .tLo ≤ n .tMin && n .tMin < n .tFull && n .tFull ≤ n .tHi then []
  else (if n .tMin < n .tLo || n .tFull ≤ n .tMin then [.tMin] else [])
    ++ (if n .tHi < n .tFull || n .tFull ≤ n .tMin then [.tFull] else [])

/-- The rows of R161's table with the items that fail in each, for the items as loaded. -/
def checkRows (c : Items) : List (List Item) :=
  let role := runningRole c
  [ unsetItems c [.zoneNumber],
    unsetItems c [.role, .side],
    unsetItems c [.capacity, .iSpan, .iJam],
    unsetItems c (requiredItems role),
    if role = .wash then thresholdItems c else [],
    if role = .sort && itemNat c .requiredStages == 0 then [.requiredStages] else [],
    if role = .load && itemNat c .capacity < itemNat c .targetEmpties then [.targetEmpties] else [] ]

/-- The item reported for a row that several items fail: one of them, and the spec does not say which (log entry 3). -/
def reportedItem (is : List Item) : Nat :=
  match is.map itemNumber with
  | [] => 0
  | [n] => n
  | ns => ns.getD (Config.reportedItem ns % ns.length) 0

/-- The first failing row of a list, rows being numbered from `row`. -/
def firstFault (row : Nat) : List (List Item) → Option SetupFault
  | [] => none
  | [] :: rest => firstFault (row + 1) rest
  | is :: _ => some { row := row, item := reportedItem is }

/-- The validity check of the items as loaded: the first row that fails, or none when the configuration is valid. -/
def validityCheck (c : Items) : Option SetupFault := firstFault 1 (checkRows c)

/-- The running configuration of a reset: the items as loaded, or none set when the check fails. -/
def runningItems (store : Items) : Items :=
  if (validityCheck (loadedItems store)).isNone then loadedItems store else Items.unset

end Sys2Proof.Machine
end

