-- ==== Sys2Proof/Machine/Ops.lean ====
section
/-! DEFINITION. Machine/Ops.lean: what the node's state says (the conditions the rules name), timers, the transmit list,
notices, STATE, halts, faults, joins and leaves of the queue and the expected list: the operations shared by the
commands. -/

namespace Sys2Proof.Machine

/-! ## What the state says -/

/-- Whether the node has a running configuration. -/
def configured (s : State) : Bool := s.sn.service != .unconfigured

/-- The node's role. -/
def role (s : State) : Role := runningRole s.ss.running

/-- The node's zone number, none in an UNCONFIGURED node. -/
def ownZone (s : State) : Option Addr := itemZone s.ss.running .zoneNumber

/-- The running capacity. -/
def capacity (s : State) : Nat := itemNat s.ss.running .capacity

/-- Whether the service state is SERVING or RECOVERING. -/
def inService (s : State) : Bool := s.sn.service == .serving || s.sn.service == .recovering

/-- The halt condition: the local e-stop term, a non-empty stop set or the start hold (R17). -/
def halted (s : State) : Bool := s.sn.localTerm || !s.sn.stopSet.isEmpty || s.sn.startHold.isSome

/-- The head is at the exit: the queue is non-empty and the exit eye is blocked (R27). -/
def headAtExit (s : State) : Bool := !s.zq.queue.isEmpty && s.zq.eyeX

/-- Every entry eye that the role uses is clear: EYE2 counts in a MERGE only (R2). -/
def entryEyesClear (s : State) : Bool := !s.zq.eye1 && !(role s == .merge && s.zq.eye2)

/-- The quiet condition (R12). -/
def quietCondition (s : State) : Bool :=
  s.zq.queue.isEmpty && s.zq.expected.isEmpty && entryEyesClear s && !s.zq.eyeX && !halted s

/-- Free places: capacity less queue length less expected count, 0 when below 0 (R30). -/
def freePlaces (s : State) : Nat := capacity s - s.zq.queue.length - s.zq.expected.length

/-- The neighbour table's entry of a zone. -/
def neighbour? (s : State) (z : Addr) : Option Neighbour := s.nt.entries.find? fun n => n.zone == z

/-- The STATE of a zone that is PRESENT, which alone a block may decide by (R65). -/
def presentState? (s : State) (z : Addr) : Option StateBody :=
  (neighbour? s z).bind fun n => if n.presence = .present then n.last else none

/-- Whether a zone can be offered to: it is PRESENT and its STATE shows SERVING, not halted, and a free place (R48). -/
def zoneReady (s : State) (z : Addr) : Bool := ((presentState? s z).map bodyReady).getD false

/-! ## The field outputs (R3, R59, R161) -/

/-- The DRIVE output: active while the drive state is RUN, and inactive while RESETN is active. -/
def drivePin (s : State) : Bool := s.dc.drive == .run && !s.resetn

/-- The GATE output: inactive while RESETN is active. -/
def gatePin (s : State) : Bool := s.ex.gate && !s.resetn

/-- The DIV1 and DIV0 outputs, DIV1 being the high line. -/
def diverterPins (s : State) : Bool × Bool := (s.ex.position.getLsbD 1, s.ex.position.getLsbD 0)

/-- The bits the node puts on the line: the abort mark after a self-check error, and otherwise those of the frame it is
sending, if it is sending one (R142, R143, R146). -/
def sentBits (s : State) : List Bool :=
  if s.li.aborting then abortBits
  else match s.li.tx.find? (·.sending) with
    | some e => wireBits e.frame
    | none => []

/-! ## Timers (R8) -/

/-- A timer started now. -/
def startTimer (s : State) (ms : Nat) : Timer := { start := s.tb, duration := ms }

/-- Whether a timer has reached its duration: TB less its start, modulo 2^32. -/
def Timer.due (t : Timer) (now : Time) : Bool := t.duration ≤ (now - t.start).toNat

/-- TB at the moment a timer expires: the expiry is taken no earlier than the timer's duration after its start (log
entry 1). -/
def reachExpiry (t : Timer) (s : State) : State :=
  if t.due s.tb then s else { s with tb := t.start + BitVec.ofNat 32 t.duration }

/-- An expiry taken: nothing while the timer is not running, and otherwise its effect at the moment of expiry. -/
def onExpiry (timer : Option Timer) (effect : State → State) (s : State) : State :=
  match timer with
  | none => s
  | some t => effect (reachExpiry t s)

/-! ## The transmit list (R145) -/

/-- A frame that joins the transmit list. -/
def freshEntry (f : Frame) : TxEntry := { frame := f, attempts := 0, sending := false, replacement := none }

/-- Whether an entry's frame is of a kind. -/
def hasKind (k : FrameKind) (e : TxEntry) : Bool := e.frame.kind == k

/-- Places a frame, and says whether it was placed, by the first case of R145 that applies. -/
def placeFrame (f : Frame) (li : LineInterface) : LineInterface × Bool :=
  if f.kind = .state ∧ li.tx.any (fun e => hasKind .state e && !e.sending) then
    ({ li with tx := li.tx.filter (fun e => !hasKind .state e) ++ [freshEntry f] }, true)
  else if f.kind = .state ∧ li.tx.any (hasKind .state) then
    ({ li with tx := li.tx.map fun e => if hasKind .state e then { e with replacement := some f } else e }, true)
  else if f.kind = .notice ∧ 3 ≤ li.tx.countP (hasKind .notice) then
    ({ li with lineDrops := li.lineDrops + 1 }, false)
  else if 8 ≤ li.tx.length then
    ({ li with lineDrops := li.lineDrops + 1 }, false)
  else
    ({ li with tx := li.tx ++ [freshEntry f] }, true)

/-- The address a node sends under: its zone number, or 63 when it has none. -/
def sendAddr (s : State) : Addr := (ownZone s).getD setupAddr

/-- A frame of the node's own. -/
def ownFrame (s : State) (kind : FrameKind) (target : Addr) (body : List Byte) : Frame :=
  { kind := kind, source := sendAddr s, target := target, body := body }

/-- A block places a frame. An UNCONFIGURED node places only REPLY frames (R10, R150). -/
def sendFrame (f : Frame) (s : State) : State :=
  if configured s || f.kind = .reply then { s with li := (placeFrame f s.li).1 } else s

/-- Whether placing a frame now would place it. -/
def canPlace (f : Frame) (s : State) : Bool := (configured s || f.kind = .reply) && (placeFrame f s.li).2

/-- The body of a NOTICE (R153). -/
def noticeBody (k : NoticeKind) (detail : Byte) (tag value : Word16) : List Byte :=
  [octet (noticeCode k), detail] ++ wordOctets tag ++ wordOctets value

/-- SN broadcasts a NOTICE (R153). -/
def sendNotice (k : NoticeKind) (detail : Byte) (tag value : Word16) (s : State) : State :=
  sendFrame (ownFrame s .notice 0 (noticeBody k detail tag value)) s

/-! ## The node's own STATE (R66, R67) -/

/-- The outlet a SPUR chooses for its head, with the call it would bind (R134). -/
def spurChoice (s : State) (head : RackRecord) : Outlet × Option CallKey :=
  if head.content ≠ .empty then (.one, none)
  else
    let own := fun (e : CallEntry) => some e.key.station == runningStation s.ss.running
    match s.cl.calls.find? own with
    | none => (.one, none)
    | some c =>
      let older := s.cl.calls.takeWhile fun e => !own e
      if older.any (fun e => inDownstreamSet s.ss.running e.key.station) then (.one, none)
      else if ((outletZone s.ss.running .two).map (zoneReady s)).getD false then (.two, some c.key)
      else (.one, none)

/-- The outlet the role gives the head, if it gives one (R47). -/
def headOutlet (s : State) : Option Outlet :=
  match s.zq.queue with
  | [] => none
  | head :: _ =>
    match role s with
    | .feed | .merge | .wash => some .one
    | .load => if head.content = .soiled then some .one else none
    | .unload => if head.content = .empty then some .one else none
    | .sort => s.sl.judgement.map (·.outlet)
    | .spur => some (spurChoice s head).1

/-- The waited-for zone, 0 for none, as for a head with no outlet (R47, R119). In OFFERING it is that of the offer's
outlet (log entry 20). -/
def waitedFor (s : State) : Addr :=
  if headAtExit s && inService s then
    match s.ex.exit with
    | .closed => ((headOutlet s).bind (outletZone s.ss.running)).getD 0
    | .offering => if (headOutlet s).isSome then (s.ex.outlet.bind (outletZone s.ss.running)).getD 0 else 0
    | .switching | .releasing => 0
  else 0

/-- The flags octet of a STATE body: bit 0 halted, bit 1 drive running, bit 2 head waiting. -/
def stateFlags (s : State) : Byte :=
  (if halted s then 1 else 0) ||| (if s.dc.drive = .run then 2 else 0) ||| (if headAtExit s then 4 else 0)

/-- The body of the node's STATE as its state stands (R66). -/
def ownBody (s : State) : StateBody :=
  { service := octet (serviceCode s.sn.service)
    flags := stateFlags s
    free := octet (freePlaces s)
    queue := octet s.zq.queue.length
    expected := octet s.zq.expected.length
    waited := addrOctet (waitedFor s) }

/-- The STATE period, 500 ms (R67). -/
def statePeriodMs : Nat := 500

/-- NT places a STATE and restarts the period timer (R67). -/
def placeState (s : State) : State :=
  let sent := sendFrame (ownFrame s .state 0 (stateOctets (ownBody s))) s
  { sent with nt := { s.nt with period := some (startTimer s statePeriodMs), announced := some (ownBody s) } }

/-- NT places a STATE when a field of the body has changed (R67). An UNCONFIGURED node sends none (R10). -/
def announce (s : State) : State :=
  if configured s && s.nt.announced != some (ownBody s) then placeState s else s

/-! ## The drive (R59 to R62) -/

/-- DC sets the drive. A change from OFF to RUN sets the skip count to 2 and the high count to 0, and a change from RUN
to OFF sets the high count to 0 (R62). -/
def setDrive (d : DriveState) (s : State) : State :=
  match s.dc.drive, d with
  | .off, .run => { s with dc := { s.dc with drive := .run, skip := 2, high := 0 } }
  | .run, .off => { s with dc := { s.dc with drive := .off, high := 0 } }
  | _, _ => s

/-- The condition under which DC keeps the drive in RUN (R59, R61). A RECOVERING node's quiet timer has never expired
since it entered RECOVERING, since its expiry makes it SERVING (R12). -/
def driveWanted (s : State) : Bool :=
  inService s && !halted s
    && (!s.zq.queue.isEmpty || !s.zq.expected.isEmpty || s.dc.runOn.isSome || s.sn.service == .recovering)
    && !(role s == .wash && headAtExit s && s.ex.exit != .releasing)

/-- DC tests the RUN condition. -/
def testDrive (s : State) : State := setDrive (if driveWanted s then .run else .off) s

/-- DC cancels run-on. -/
def cancelRunOn (s : State) : State := { s with dc := { s.dc with runOn := none } }

/-- Run-on starts when the queue and the expected list have become empty together while the node is SERVING or RECOVERING
and not halted. With run-on 0 the timer expires as it starts (R60). -/
def startRunOnIfEmpty (s : State) : State :=
  if s.zq.queue.isEmpty && s.zq.expected.isEmpty && inService s && !halted s && itemNat s.ss.running .runOn != 0 then
    { s with dc := { s.dc with runOn := some (startTimer s (itemSeconds s.ss.running .runOn)) } }
  else s

/-! ## The quiet timer (R12) -/

/-- SN cancels the quiet timer. -/
def cancelQuiet (s : State) : State := { s with sn := { s.sn with quiet := none } }

/-- SN starts the quiet timer when the node is RECOVERING and the quiet condition holds, leaves it running while they
hold, and cancels it when either fails. -/
def testQuiet (s : State) : State :=
  if s.sn.service = .recovering && quietCondition s then
    if s.sn.quiet.isSome then s
    else { s with sn := { s.sn with quiet := some (startTimer s (itemSeconds s.ss.running .quietTime)) } }
  else cancelQuiet s

/-! ## Undoing an offer (R51, R53 to R58, R138) -/

/-- A change of the head record; nothing when the queue is empty. -/
def changeHead (f : RackRecord → RackRecord) (s : State) : State :=
  match s.zq.queue with
  | [] => s
  | head :: rest => { s with zq := { s.zq with queue := f head :: rest } }

/-- A record with its bound call absent. -/
def unbound (r : RackRecord) : RackRecord := { r with bound := none }

/-- CL undoes the binding of an offer to STATION: the call of the offer becomes none, and the head's bound call absent,
unless the record that was bound has left the queue (R138). -/
def unbindOffer (headGone : Bool) (s : State) : State :=
  if s.cl.offerCall.isSome then
    let s := if headGone then s else changeHead unbound s
    { s with cl := { s.cl with offerCall := none } }
  else s

/-- The offer's outlet and serial become none. -/
def endOffer (s : State) : State := { s with ex := { s.ex with outlet := none, serial := none } }

/-- EX is CLOSED, with the gate inactive and neither travel nor release running. -/
def closeExit (s : State) : State :=
  { s with ex := { s.ex with exit := .closed, gate := false, travel := none, release := none } }

/-- EX sends the RECALL of the acknowledged offer, to the outlet's zone and with the offer's serial, and goes to CLOSED
(R58). -/
def recallOffer (headGone : Bool) (s : State) : State :=
  let s := match s.ex.outlet.bind (outletZone s.ss.running), s.ex.serial with
    | some z, some n => sendFrame (ownFrame s .recall z [n]) s
    | _, _ => s
  closeExit (endOffer (unbindOffer headGone s))

/-- What EX does at the start of a halt and at entry to FAULTED: in SWITCHING or RELEASING it recalls the offer and goes
to CLOSED, and in CLOSED and OFFERING it does nothing (R14, R18, R53, R54, R56). -/
def stopExit (s : State) : State :=
  match s.ex.exit with
  | .switching | .releasing => recallOffer false s
  | .closed | .offering => s

/-! ## Halts (R18, R19) and FAULTED (R14) -/

/-- The configured arrival window, started now (R75). -/
def freshWindow (s : State) : Timer := startTimer s (itemSeconds s.ss.running .arrivalWindow)

/-- A change of every entry's arrival window. -/
def setWindows (w : Option Timer) (s : State) : State :=
  { s with zq := { s.zq with expected := s.zq.expected.map fun e => { e with window := w } } }

/-- The halt condition has become true (R18). -/
def haltBegins (s : State) : State :=
  setWindows none (cancelQuiet (stopExit (cancelRunOn (setDrive .off s))))

/-- The halt condition has become false: every arrival window restarts in full (R19). The quiet timer, the drive and the
exit resume by their own tests. -/
def haltEnds (s : State) : State := setWindows (some (freshWindow s)) s

/-- A change of the halt terms, with the effects of a halt that begins or ends by it. -/
def changeTerms (change : State → State) (s : State) : State :=
  let s' := change s
  if halted s' && !halted s then haltBegins s'
  else if halted s && !halted s' then haltEnds s'
  else s'

/-- Entry to FAULTED, up to the STATE that shows it (R14). -/
def enterFaulted (s : State) : State :=
  announce (cancelQuiet (stopExit (cancelRunOn (setDrive .off
    { s with sn := { s.sn with service := .faulted } }))))

/-- The latched fault of a kind, if it is latched. -/
def latched? (fs : Faults) : FaultKind → Option LatchedFault
  | .jam => fs.jam
  | .exitStuck => fs.exitStuck
  | .overfull => fs.overfull
  | .duplicateZone => fs.duplicateZone
  | .probe => fs.probe

/-- The latched faults with one kind changed. -/
def setLatched (fs : Faults) (k : FaultKind) (v : Option LatchedFault) : Faults :=
  match k with
  | .jam => { fs with jam := v }
  | .exitStuck => { fs with exitStuck := v }
  | .overfull => { fs with overfull := v }
  | .duplicateZone => { fs with duplicateZone := v }
  | .probe => { fs with probe := v }

/-- Whether one of the four kinds is latched that keep a node FAULTED (R14, R16). -/
def serviceFault (fs : Faults) : Bool :=
  fs.jam.isSome || fs.exitStuck.isSome || fs.overfull.isSome || fs.duplicateZone.isSome

/-- The notice repeat, 10 s (R153). -/
def noticeRepeatMs : Nat := 10000

/-- A detection of a fault: nothing when the kind is latched, and otherwise it is latched with its fields, a RECOVERING
or SERVING node becomes FAULTED for any kind but PROBE, and the NOTICE is placed (R14, R99, R153). -/
def latchFault (k : FaultKind) (detail : Byte) (tag value : Word16) (s : State) : State :=
  if (latched? s.sn.faults k).isSome then s
  else
    let fault := { detail, tag, value, renotice := some (startTimer s noticeRepeatMs) }
    let s := { s with sn := { s.sn with faults := setLatched s.sn.faults k (some fault) } }
    let s := if k ≠ .probe && inService s then enterFaulted s else s
    sendNotice (.fault k) detail tag value s

/-! ## Counts -/

/-- A change of SN's counts. -/
def count (f : Counts → Counts) (s : State) : State := { s with sn := { s.sn with counts := f s.sn.counts } }

/-! ## The zone queue (R25, R26, R36, R100) -/

/-- The tag-read window, 1,000 ms (R43). -/
def tagWindowMs : Nat := 1000

/-- The entry a WASH zone makes for its stage (R100). -/
def stageEntry (stage : Nat) : StageResult := { stage := stage, credit := 0, verdict := .pending, faultSeen := false }

/-- A record with the zone's stage entry at the end of its results, in place of any entry of that stage (R22, R100). -/
def withStageEntry (stage : Nat) (r : RackRecord) : RackRecord :=
  { r with results := r.results.filter (fun e => e.stage != stage) ++ [stageEntry stage] }

/-- A record as it joins the queue: in a WASH zone with required credit above 0 it gains its stage entry. -/
def joining (s : State) (r : RackRecord) : RackRecord :=
  if role s = .wash && itemNat s.ss.running .requiredCredit != 0 then
    withStageEntry (itemNat s.ss.running .stage) r
  else r

/-- A record joins the queue at the tail (R25). -/
def joinQueue (r : RackRecord) (s : State) : State :=
  cancelQuiet (cancelRunOn
    { s with zq := { s.zq with queue := s.zq.queue ++ [joining s r]
                               tagWindow := some (startTimer s tagWindowMs) } })

/-- The content of a stray (R4, R36). -/
def strayContent (s : State) : Content :=
  if role s = .load || runningSide s.ss.running = .return then .empty else .unknown

/-- A stray's default record (R36). -/
def strayRecord (s : State) : RackRecord :=
  { tag := none, content := strayContent s, origin := none, washes := 0, bound := none, results := [] }

/-- A stray joins the queue: the strays count rises and NOTICE STRAY is sent with a detail and a value (R34, R35, R37). -/
def makeStray (detail : Byte) (value : Word16) (s : State) : State :=
  sendNotice .stray detail 0 value
    (count (fun c => { c with strays := c.strays + 1 }) (joinQueue (strayRecord s) s))

/-- The head record leaves the queue (R26): the judgement ends with it (R109), and a leave that empties the queue cancels
the tag-read window and may start run-on. -/
def leaveHead (s : State) : State :=
  let s := { s with zq := { s.zq with queue := s.zq.queue.tail }, sl := { s.sl with judgement := none } }
  if s.zq.queue.isEmpty then startRunOnIfEmpty { s with zq := { s.zq with tagWindow := none } } else s

/-! ## The expected list (R28, R29) -/

/-- An entry leaves the expected list without its rack: its window goes with it, and run-on may start (R60, R76, R77). -/
def dropExpected (n : Nat) (s : State) : State :=
  startRunOnIfEmpty { s with zq := { s.zq with expected := s.zq.expected.eraseIdx n } }

/-- An entry is removed as LOST: the lost count rises and NOTICE LOST is sent (R40, R76). -/
def loseExpected (n : Nat) (s : State) : State :=
  match s.zq.expected[n]? with
  | none => s
  | some e =>
    sendNotice .lost (addrOctet e.upstream) (tagWord e.record.tag) (e.serial.setWidth 16)
      (count (fun c => { c with lost := c.lost + 1 }) (dropExpected n s))

/-- The place of the oldest expected entry that a rack seen at an inlet matches (R31, R33). -/
def matchingEntry (inlet : Inlet) (s : State) : Option Nat :=
  (inletZone s.ss.running inlet).bind fun z => s.zq.expected.findIdx? fun e => e.upstream == z

end Sys2Proof.Machine
end

