-- ==== Sys2Proof/Machine/Exit.lean ====
section
/-! DEFINITION. Machine/Exit.lean: the judgement at the sort, the offer of the head and its outcomes, the station's
calls, and the tests every event ends with (chapters 3, 6, 7 and 8). -/

namespace Sys2Proof.Machine

/-! ## The freeze (R106) -/

/-- The verdict of an entry at the freeze. -/
def frozenVerdict (required : Nat) (r : StageResult) : Verdict :=
  if r.faultSeen then .probeLost else if required ≤ r.credit then .met else .short

/-- A PENDING entry with its verdict fixed; a frozen entry as it stands. -/
def freezeResult (required : Nat) (r : StageResult) : StageResult :=
  if r.verdict = .pending then { r with verdict := frozenVerdict required r } else r

/-- A record with its PENDING entry frozen. -/
def freezeRecord (required : Nat) (r : RackRecord) : RackRecord :=
  { r with results := r.results.map (freezeResult required) }

/-! ## The judgement at the sort (R109 to R112) -/

/-- The head passes: its content is not UNKNOWN and it holds a MET result for every required stage (R110). -/
def passesSort (required : List Nat) (r : RackRecord) : Bool :=
  r.content != .unknown
    && required.all fun k => r.results.any fun e => e.stage == k && e.verdict == .met

/-- The judgement of a head (R110, R111). -/
def judge (required : List Nat) (maximumPasses : Nat) (r : RackRecord) : Judgement :=
  if passesSort required r then { outcome := .pass, outlet := .one, applied := false }
  else if min (r.washes + 1) 3 < maximumPasses then { outcome := .fail, outlet := .two, applied := false }
  else { outcome := .fail, outlet := .three, applied := false }

/-- SL judges the head at the exit of a SORT zone when it holds no judgement (R109). -/
def formJudgement (s : State) : State :=
  match s.zq.queue, s.sl.judgement with
  | head :: _, none =>
    if role s = .sort && s.zq.eyeX then
      { s with sl := { judgement := some (judge (requiredStageList s.ss.running)
          (itemNat s.ss.running .maximumPasses) head) } }
    else s
  | _, _ => s

/-- The record after the changes of a judgement that names an outlet (R112). -/
def judgedRecord (o : Outlet) (r : RackRecord) : RackRecord :=
  match o with
  | .one => { r with content := .clean, washes := min (r.washes + 1) 3 }
  | .two => { r with content := .soiled, washes := min (r.washes + 1) 3, results := [] }
  | .three => { r with content := .reject, washes := min (r.washes + 1) 3 }

/-- The counts after the application of a judgement (R112). -/
def countJudged (o : Outlet) (c : Counts) : Counts :=
  match o with
  | .one => c
  | .two => { c with rewashes := c.rewashes + 1 }
  | .three => { c with rejects := c.rejects + 1 }

/-- SL's changes are applied to the head, once (R112). -/
def applyJudgement (s : State) : State :=
  match s.zq.queue, s.sl.judgement with
  | head :: _, some j =>
    if j.applied then s
    else
      let s := count (countJudged j.outlet) (changeHead (judgedRecord j.outlet)
        { s with sl := { judgement := some { j with applied := true } } })
      if j.outlet = .three then
        sendNotice .rejected (addrOctet ((outletZone s.ss.running .three).getD 0)) (tagWord head.tag)
          ((head.origin.getD 0).setWidth 16) s
      else s
  | _, _ => s

/-! ## Binding at a SPUR (R136) -/

/-- CL binds the head to the call of a STATION offer, or clears its bound call for an offer ONWARD (R136). R135 says that CL
takes no part in the offer of a head that is not EMPTY; that such a head's bound call is cleared all the same is the model's
choice (log entry 27). -/
def bindHead (call : Option CallKey) (s : State) : State :=
  let s := changeHead (fun r => { r with bound := call }) s
  { s with cl := { s.cl with offerCall := call } }

/-! ## The offer (R48, R49, R51) -/

/-- The hold-off, 1,000 ms (R51). -/
def holdOffMs : Nat := 1000

/-- The condition on which EX leaves CLOSED for OFFERING (R48). -/
def offerReady (s : State) : Bool :=
  headAtExit s && inService s && !halted s && s.ex.exit == .closed && s.ex.holdOff.isNone
    && (((headOutlet s).bind (outletZone s.ss.running)).map (zoneReady s)).getD false

/-- EX takes a refusal of its PASS: CLOSED, with the hold-off naming the neighbour that held, or none for a failure
(R51); a SPUR's binding is undone (R138). -/
def refuseOffer (named : Option Addr) (s : State) : State :=
  let s := closeExit (endOffer (unbindOffer s.ex.withdrawn s))
  { s with ex := { s.ex with holdOff := some (startTimer s holdOffMs), holdOffZone := named } }

/-- What is done to the head at the PASS build, in R49's order: freeze, judgement, binding. -/
def prepareHead (s : State) : State :=
  match role s with
  | .wash => changeHead (freezeRecord (itemNat s.ss.running .requiredCredit)) s
  | .sort => applyJudgement s
  | .spur => bindHead ((s.zq.queue.head?.bind fun h => (spurChoice s h).2)) s
  | .feed | .merge | .load | .unload => s

/-- EX takes the next handover serial and records the offer (R49, R69). -/
def takeSerial (o : Outlet) (s : State) : State :=
  { s with ex := { s.ex with exit := .offering, outlet := some o, serial := some (s.ex.lastSerial + 1),
                             lastSerial := s.ex.lastSerial + 1, withdrawn := false } }

/-- The PASS of the offer in progress: its serial and a copy of the head record (R68). -/
def offerFrame (z : Addr) (s : State) : Frame :=
  ownFrame s .pass z (match s.zq.queue with
    | [] => []
    | head :: _ => passBody s.ex.lastSerial head)

/-- EX offers the head to an outlet (R49). A PASS that finds no place in the transmit list has failed at once (R145). -/
def makeOffer (o : Outlet) (z : Addr) (s : State) : State :=
  let s := takeSerial o (prepareHead s)
  let placed := canPlace (offerFrame z s) s
  let s := sendFrame (offerFrame z s) s
  if placed then s else refuseOffer none s

/-- EX tests the offer condition and offers when it holds (R48). -/
def testOffer (s : State) : State :=
  if offerReady s then
    match headOutlet s with
    | none => s
    | some o => makeOffer o ((outletZone s.ss.running o).getD 0) s
  else s

/-! ## The station's need (R128, R130) -/

/-- The sum of the EMPTY records in the queue, the expected count and the outstanding calls. -/
def stationSum (s : State) : Nat :=
  s.zq.queue.countP (fun r => r.content == .empty) + s.zq.expected.length + s.cl.calls.length

/-- The target empties. -/
def targetEmpties (s : State) : Nat := itemNat s.ss.running .targetEmpties

/-- The next call serial: one more modulo 256, passing over the serials of outstanding calls (R128). -/
def nextCallSerial (calls : List CallEntry) : Nat → Byte → Byte
  | 0, last => last + 1
  | n + 1, last =>
    if calls.any (fun e => e.key.serial == last + 1) then nextCallSerial calls n (last + 1) else last + 1

/-- The body of a CALL or DECLINE (R122). -/
def callBody (k : CallKey) : List Byte := [stationOctet (some k.station), k.serial]

/-- The call repeat, 20 s (R129). -/
def callRepeatMs : Nat := 20000

/-- The call expiry, 60 s (R125). -/
def callExpiryMs : Nat := 60000

/-- CL issues a call (R128). -/
def issueCall (s : State) : State :=
  let key : CallKey :=
    { station := (runningStation s.ss.running).getD 0
      serial := nextCallSerial s.cl.calls s.cl.calls.length s.cl.lastSerial }
  let entry : CallEntry := { key := key, lastHeard := s.tb, timer := some (startTimer s callRepeatMs) }
  sendFrame (ownFrame s .call 0 (callBody key))
    { s with cl := { s.cl with calls := s.cl.calls ++ [entry], lastSerial := key.serial } }

/-- CL issues calls while the station is open and the need is above 0; `n` bounds how many. -/
def issueCalls : Nat → State → State
  | 0, s => s
  | n + 1, s => if s.cl.stationOpen && stationSum s < targetEmpties s then issueCalls n (issueCall s) else s

/-- CL withdraws the call at a place of the list with a DECLINE (R130, R131). -/
def withdrawCall (n : Nat) (s : State) : State :=
  match s.cl.calls[n]? with
  | none => s
  | some e =>
    sendFrame (ownFrame s .decline 0 (callBody e.key))
      { s with cl := { s.cl with calls := s.cl.calls.eraseIdx n } }

/-- CL withdraws the newest outstanding call while the sum is above the target; `n` bounds how many. -/
def withdrawExcess : Nat → State → State
  | 0, s => s
  | n + 1, s =>
    if targetEmpties s < stationSum s && !s.cl.calls.isEmpty then
      withdrawExcess n (withdrawCall (s.cl.calls.length - 1) s)
    else s

/-- CL withdraws every outstanding call, oldest first; `n` bounds how many (R131). -/
def withdrawAll : Nat → State → State
  | 0, s => s
  | n + 1, s => if s.cl.calls.isEmpty then s else withdrawAll n (withdrawCall 0 s)

/-- CL evaluates the need of a LOAD (R128, R130). -/
def testNeed (s : State) : State :=
  if role s = .load && configured s then
    let s := withdrawExcess s.cl.calls.length s
    issueCalls (targetEmpties s) s
  else s

/-! ## The tests an event ends with -/

/-- The tests that follow an event: SL judges a head come to the exit, SN tests the quiet condition, CL evaluates the
need, EX tests the offer condition, DC tests the RUN condition, and NT announces a changed body (R12, R48, R59, R67,
R109, R128; log entry 6). -/
def settle (s : State) : State :=
  if configured s then announce (testDrive (testOffer (testNeed (testQuiet (formJudgement s))))) else s

/-! ## Acknowledgement (R50, R53, R54, R55, R137) -/

/-- CL's answer to an ACK of a STATION offer: ANSWER is placed, the call leaves the list and the answered count rises
(R137). The tag is the record's; a withdrawn record's is the one its PASS carried (log entry 8). -/
def answerCall (passTag : Word16) (s : State) : State :=
  match s.cl.offerCall with
  | none => s
  | some key =>
    let tag := if s.ex.withdrawn then passTag else tagWord (s.zq.queue.head?.bind (·.tag))
    count (fun c => { c with answered := c.answered + 1 })
      { sendFrame (ownFrame s .answer 0 (callBody key ++ wordOctets tag)) s with
        cl := { s.cl with calls := s.cl.calls.filter fun e => e.key != key } }

/-- EX enters RELEASING: the release timer starts, and the gate opens in a zone that has one (R55). -/
def enterReleasing (s : State) : State :=
  { s with ex := { s.ex with exit := .releasing, travel := none, gate := role s != .wash,
                             release := some (startTimer s (itemSeconds s.ss.running .releaseLimit)) } }

/-- The diverter travel is complete: the diverter is settled and EX enters RELEASING (R54). -/
def travelDone (s : State) : State := enterReleasing { s with ex := { s.ex with settled := true } }

/-- EX enters SWITCHING towards an outlet. With a diverter travel of 0 it passes to RELEASING at once (R54). -/
def enterSwitching (o : Outlet) (s : State) : State :=
  let travel := itemNat s.ss.running .diverterTravel
  let s := { s with ex := { s.ex with exit := .switching, position := outletPosition s.ss.running o,
                                      settled := false, travel := some (startTimer s travel) } }
  if travel = 0 then travelDone s else s

/-- Whether the role moves its diverter after a reset (R5, R50). -/
def movesDiverter (r : Role) : Bool := r == .sort || r == .spur

/-- EX takes the ACK of its PASS: the role logic hears of it, and then the offer is recalled when the node is halted or
FAULTED or the offer withdrawn, and otherwise goes on to SWITCHING or RELEASING (R50, R53). -/
def acceptOffer (passTag : Word16) (s : State) : State :=
  let s := if role s = .spur then answerCall passTag s else s
  if halted s || s.sn.service == .faulted || s.ex.withdrawn then recallOffer s.ex.withdrawn s
  else
    match s.ex.outlet with
    | none => s
    | some o =>
      if movesDiverter (role s) && !(s.ex.position == outletPosition s.ss.running o && s.ex.settled) then
        enterSwitching o s
      else enterReleasing s

/-- The end of a release: the head leaves the queue, the gate closes, the released count rises and EX is CLOSED
(R55, R138). -/
def endRelease (s : State) : State :=
  let s := count (fun c => { c with released := c.released + 1 }) (leaveHead s)
  closeExit (endOffer { s with cl := { s.cl with offerCall := none } })

/-- The head is taken off by hand: it leaves the queue, the removed count rises and NOTICE REMOVED is sent (R38). EX
then marks an offer in OFFERING as withdrawn, and recalls one in SWITCHING (R53, R54). -/
def removeHead (s : State) : State :=
  match s.zq.queue with
  | [] => s
  | head :: _ =>
    let s := sendNotice .removed 0 (tagWord head.tag) (BitVec.ofNat 16 (contentCode head.content))
      (count (fun c => { c with removed := c.removed + 1 }) (leaveHead s))
    match s.ex.exit with
    | .offering => { s with ex := { s.ex with withdrawn := true } }
    | .switching => recallOffer true s
    | .closed | .releasing => s

end Sys2Proof.Machine
end

