-- ==== Sys2Proof/Machine/Handover.lean ====
section
/-! DEFINITION. Machine/Handover.lean: the receiver's side of a handover: PASS, the merge arbiter, RECALL and STATE as
their blocks take them (chapters 4 and 5, R132). -/

namespace Sys2Proof.Machine

/-- LI drives a bit, or nothing, in the reply slot. -/
def driveSlot (b : Slot) (s : State) : State := { s with li := { s.li with slot := b } }

/-! ## The merge arbiter (chapter 5) -/

/-- The upstream zone of a PASS's source: upstream 1 when the source is both (R70). -/
def upstreamOf (s : State) (source : Addr) : Option Inlet :=
  if inletZone s.ss.running .one = some source then some .one
  else if inletZone s.ss.running .two = some source then some .two
  else none

/-- An upstream zone is waiting: it is PRESENT, and its STATE shows its head waiting for this node (R85). -/
def upstreamWaiting (s : State) (u : Inlet) : Bool :=
  match (inletZone s.ss.running u).bind (presentState? s), ownZone s with
  | some b, some z => bodyHeadWaiting b && b.waited == addrOctet z
  | _, _ => false

/-- Upstream 1 and upstream 2 are configured as the same zone (R86). -/
def sameUpstreams (s : State) : Bool := inletZone s.ss.running .one == inletZone s.ss.running .two

/-- MA's answer to a PASS from an upstream: true for ACK (R86, R87, R89, R90). -/
def arbitrate (u : Inlet) (s : State) : Bool :=
  if sameUpstreams s then true
  else
    let waiting := upstreamWaiting s (otherInlet u)
    match runningMergeMode s.ss.running, u with
    | .alternate, _ => !(waiting && freePlaces s == 1 && s.ma.turn == otherInlet u)
    | .priority, .two => !(waiting && s.ma.guard < 4)
    | .priority, .one => !(4 ≤ s.ma.guard && waiting && freePlaces s == 1)

/-- MA after its ACK (R86, R88, R91). -/
def arbitrated (u : Inlet) (s : State) : MergeArbiter :=
  if sameUpstreams s then s.ma
  else
    let waiting := upstreamWaiting s (otherInlet u)
    match runningMergeMode s.ss.running, u with
    | .alternate, _ => if waiting then { s.ma with turn := otherInlet u } else s.ma
    | .priority, .one => if waiting then { s.ma with guard := min (s.ma.guard + 1) 255 } else s.ma
    | .priority, .two => { s.ma with guard := 0 }

/-! ## PASS (R70 to R73, R132) -/

/-- ZQ's answer to a PASS: the upstream that is acknowledged, or none for HOLD, by the first case of R71 that
applies. -/
def passDecision (source : Addr) (s : State) : Option Inlet :=
  match upstreamOf s source with
  | none => none
  | some u =>
    if s.sn.service ≠ .serving then none
    else if halted s then none
    else if capacity s ≤ s.zq.queue.length + s.zq.expected.length then none
    else if role s = .merge && !arbitrate u s then none
    else some u

/-- The bound call of an acknowledged record as a LOAD judges it: absent, satisfied or surplus (R132). -/
def judgeCall (source : Addr) (r : RackRecord) (s : State) : State :=
  match r.bound with
  | none => s
  | some key =>
    if s.cl.calls.any (fun e => e.key == key) then
      { s with cl := { s.cl with calls := s.cl.calls.filter fun e => e.key != key } }
    else
      sendNotice .surplus (addrOctet source) (tagWord r.tag) (key.serial.setWidth 16)
        (count (fun c => { c with surplus := c.surplus + 1 }) s)

/-- The entry of an acknowledged PASS, with its window started in full (R73). -/
def passEntry (source : Addr) (body : List Byte) (s : State) : ExpectedEntry :=
  { record := clampedRecord body, upstream := source, serial := octetAt body 0, window := some (freshWindow s) }

/-- The entry of an acknowledged PASS joins the expected list (R29, R73). -/
def joinExpected (source : Addr) (body : List Byte) (u : Inlet) (s : State) : State :=
  let ma := if role s = .merge then arbitrated u s else s.ma
  let s := cancelQuiet (cancelRunOn
    { s with zq := { s.zq with expected := s.zq.expected ++ [passEntry source body s] }, ma := ma })
  if role s = .load then judgeCall source (clampedRecord body) s else s

/-- ZQ takes a PASS addressed to this node (R70 to R73). -/
def takePass (source : Addr) (body : List Byte) (s : State) : State :=
  match passDecision source s with
  | none => driveSlot .hold s
  | some u => driveSlot .ack (settle (joinExpected source body u s))

/-! ## RECALL (R77) -/

/-- ZQ takes a RECALL addressed to this node. -/
def takeRecall (source : Addr) (serial : Byte) (s : State) : State :=
  match s.zq.expected.findIdx? fun e => e.upstream == source && e.serial == serial with
  | none => driveSlot .hold s
  | some n => driveSlot .ack (settle (dropExpected n s))

/-! ## STATE (R52, R64) -/

/-- A neighbour's silence, 1,500 ms (R65). -/
def silenceMs : Nat := 1500

/-- A neighbour's entry after a STATE taken from it (R64). -/
def heardNeighbour (b : StateBody) (s : State) (n : Neighbour) : Neighbour :=
  { n with last := some b, lastHeard := some s.tb, presence := .present, silence := some (startTimer s silenceMs) }

/-- A STATE showing a free place, from the neighbour whose HOLD started the hold-off, ends the hold-off (R52). -/
def endHoldOffOn (source : Addr) (b : StateBody) (s : State) : State :=
  if s.ex.holdOff.isSome && s.ex.holdOffZone == some source && b.free != 0 then
    { s with ex := { s.ex with holdOff := none, holdOffZone := none } }
  else s

/-- NT takes a STATE: a source with no entry is discarded (R64). -/
def takeState (source : Addr) (b : StateBody) (s : State) : State :=
  if (neighbour? s source).isSome then
    let entries := s.nt.entries.map fun n => if n.zone == source then heardNeighbour b s n else n
    settle (endHoldOffOn source b { s with nt := { s.nt with entries := entries } })
  else s

/-! ## CALL, ANSWER and DECLINE (R123, R124) -/

/-- Whether a SPUR stores calls of a station: its own, or one of its downstream station set (R123). -/
def spurStores (s : State) (st : Station) : Bool :=
  some st == runningStation s.ss.running || inDownstreamSet s.ss.running st

/-- A SPUR takes a CALL (R123): discarded, refreshed in place, not stored for want of room, or stored at the tail. -/
def storeCall (key : CallKey) (s : State) : State :=
  let entry : CallEntry := { key := key, lastHeard := s.tb, timer := some (startTimer s callExpiryMs) }
  if !spurStores s key.station then s
  else if s.cl.calls.any (fun e => e.key == key) then
    { s with cl := { s.cl with calls := s.cl.calls.map fun e => if e.key == key then entry else e } }
  else if 24 ≤ s.cl.calls.length || 3 ≤ s.cl.calls.countP (fun e => e.key.station == key.station) then s
  else { s with cl := { s.cl with calls := s.cl.calls ++ [entry] } }

/-- CL takes a CALL: a SPUR stores it, a LOAD discards it, and the other roles have no CL (R7, R123). -/
def takeCall (station serial : Byte) (s : State) : State :=
  match role s, stationOfOctet station with
  | .spur, some st => settle (storeCall { station := st, serial := serial } s)
  | _, _ => s

/-- CL takes an ANSWER or a DECLINE: at a LOAD or a SPUR the entry with its key is removed (R124). -/
def takeSettled (station serial : Byte) (s : State) : State :=
  match stationOfOctet station with
  | none => s
  | some st =>
    if role s = .load || role s = .spur then
      let key : CallKey := { station := st, serial := serial }
      settle { s with cl := { s.cl with calls := s.cl.calls.filter fun e => e.key != key } }
    else s

end Sys2Proof.Machine
end

