-- ==== Sys2Proof/Machine/Supervision.lean ====
section
/-! DEFINITION. Machine/Supervision.lean: the resets, the stop set, CLEAR, the enquiries and the setup frames as SN and SS
take them (chapters 10 and 11). -/

namespace Sys2Proof.Machine

/-! ## Resets (R9, R161) -/

/-- Resets since power after a reset of a kind: 0 at POWER, and otherwise one more, stopping at 255. -/
def resetsAfter (cause : ResetCause) (resets : Nat) : Nat :=
  match cause with
  | .power => 0
  | .pin | .remote => min (resets + 1) 255

/-- TB at a reset: POWER starts it at 0, and the others leave it counting (R8). -/
def timeAfter (cause : ResetCause) (now : Time) : Time :=
  match cause with
  | .power => 0
  | .pin | .remote => now

/-- A reset of a kind (R161): every block takes its reset values, the store is kept, loaded and checked, and a node whose
store is valid announces itself (R67). The commands that wait are no part of the node. -/
def resetNode (cause : ResetCause) (s : State) : State :=
  let running := runningItems s.ss.store
  let now := timeAfter cause s.tb
  let fresh : State :=
    { tb := now
      resetn := false
      li := LineInterface.reset
      zq := ZoneQueue.reset
      ex := ExitController.reset (resetPosition running)
      dc := DriveController.reset
      nt := NeighbourTable.reset (neighbourZones running)
      su := SampleUnit.reset
      ma := MergeArbiter.reset
      sl := SortLogic.reset
      cl := CallList.reset
      sn := StopNotice.reset now (validityCheck (loadedItems s.ss.store)) cause (resetsAfter cause s.sn.resets)
      ss := SetupStore.reset s.ss.store running
      pending := s.pending }
  if configured fresh then placeState fresh else fresh

/-! ## STOP and GO (R151) -/

/-- Whether an address can stand in the stop set: a zone or a panel, 1 to 62. -/
def isStation (a : Addr) : Bool := isZone a || isPanel a

/-- SN adds the source of a STOP to the stop set. -/
def addStop (source : Addr) (s : State) : State :=
  if isStation source && !s.sn.stopSet.contains source then
    { s with sn := { s.sn with stopSet := s.sn.stopSet ++ [source] } }
  else s

/-- SN takes a GO: a panel's empties the stop set, and a zone's removes that zone. -/
def removeStop (source : Addr) (s : State) : State :=
  if isPanel source then { s with sn := { s.sn with stopSet := [] } }
  else if isZone source then { s with sn := { s.sn with stopSet := s.sn.stopSet.filter (· != source) } }
  else s

/-- SN takes a STOP (R151). -/
def takeStop (source : Addr) (s : State) : State := settle (changeTerms (addStop source) s)

/-- SN takes a GO (R151). -/
def takeGo (source : Addr) (s : State) : State := settle (changeTerms (removeStop source) s)

/-! ## CLEAR (R16, R154) -/

/-- The fault kind a code names. -/
def faultOfCode (code : Byte) : Option FaultKind :=
  match code.toNat with
  | 1 => some .jam | 2 => some .exitStuck | 3 => some .overfull | 4 => some .duplicateZone | 5 => some .probe
  | _ => none

/-- The faults left by a CLEAR: 255 unlatches every kind, and a code that names no kind changes nothing. -/
def clearedFaults (code : Byte) (fs : Faults) : Faults :=
  if code = 255 then Faults.clear
  else match faultOfCode code with
    | some k => setLatched fs k none
    | none => fs

/-- SN unlatches, and a FAULTED node with none of the four kinds left latched becomes RECOVERING. -/
def unlatch (code : Byte) (s : State) : State :=
  let faults := clearedFaults code s.sn.faults
  { s with sn := { s.sn with
      faults := faults
      service := if s.sn.service = .faulted && !serviceFault faults then .recovering else s.sn.service } }

/-- SN takes a CLEAR addressed to this node, and answers ACK. -/
def takeClear (code : Byte) (s : State) : State := driveSlot .ack (settle (unlatch code s))

/-! ## Enquiries (R155) -/

/-- A REPLY body of 28 octets: topic, index, result, item data, and 0 in the octets not used. -/
def replyBody (topic index result : Byte) (data : List Byte) : List Byte :=
  let used := [topic, index, result] ++ data
  (used ++ List.replicate (28 - used.length) 0).take 28

/-- Data found give result OK, 0, and none give result NONE, 1, with no data. -/
def answerBody (topic index : Byte) : Option (List Byte) → List Byte
  | some data => replyBody topic index 0 data
  | none => replyBody topic index 1 []

/-- The octet of the latched faults: bit k − 1 for fault kind k. -/
def faultsOctet (fs : Faults) : Byte :=
  (if fs.jam.isSome then 1 else 0) ||| (if fs.exitStuck.isSome then 2 else 0)
    ||| (if fs.overfull.isSome then 4 else 0) ||| (if fs.duplicateZone.isSome then 8 else 0)
    ||| (if fs.probe.isSome then 16 else 0)

/-- The octet of the halt terms: bit 0 local e-stop, bit 1 stop set, bit 2 start hold. -/
def termsOctet (s : State) : Byte :=
  (if s.sn.localTerm then 1 else 0) ||| (if s.sn.stopSet.isEmpty then 0 else 2)
    ||| (if s.sn.startHold.isSome then 4 else 0)

/-- The data of topic STATUS. -/
def statusData (s : State) : List Byte :=
  [ octet (serviceCode s.sn.service), octet (exitCode s.ex.exit), octet (driveCode s.dc.drive), termsOctet s,
    octet s.sn.stopSet.length, faultsOctet s.sn.faults, octet (causeCode s.sn.resetCause), octet s.sn.resets,
    if s.cl.stationOpen then 1 else 0,
    octet ((s.sn.reason.map (·.row)).getD 0), octet ((s.sn.reason.map (·.item)).getD 0) ]

/-- The counts in the order of their indexes 0 to 9. -/
def countList (s : State) : List Word16 :=
  [ s.sn.counts.released, s.sn.counts.strays, s.sn.counts.lost, s.sn.counts.removed, s.sn.counts.surplus,
    s.sn.counts.answered, s.sn.counts.rewashes, s.sn.counts.rejects, s.li.lineDrops, s.li.receiveErrors ]

/-- The frozen results of a record: a PENDING entry is left out of a REPLY. -/
def frozenResults (r : RackRecord) : List StageResult := r.results.filter fun e => e.verdict != .pending

/-- The data of topic QUEUE for a record: it is coded as PASS body octets 1 to 24. -/
def queueData (r : RackRecord) : List Byte :=
  recordHeadOctets r ++ [octet (frozenResults r).length] ++ (frozenResults r).flatMap resultOctets

/-- The data of topic EXPECTED for an entry: zone, serial, then the record without the result count. -/
def expectedData (e : ExpectedEntry) : List Byte :=
  [addrOctet e.upstream, e.serial] ++ recordHeadOctets e.record ++ (frozenResults e.record).flatMap resultOctets

/-- A time since last heard in ms, stopping at 65535. It is a difference of TB values, modulo 2^32, so that it starts
again for an entry not heard for 2^32 ms, which is the model's choice (log entry 25). -/
def sinceHeard (now heard : Time) : Word16 := BitVec.ofNat 16 (min (now - heard).toNat 65535)

/-- The data of topic CALLS for an entry. -/
def callData (now : Time) (e : CallEntry) : List Byte :=
  callBody e.key ++ wordOctets (sinceHeard now e.lastHeard)

/-- The data of topic NEIGHBOUR for an entry. -/
def neighbourData (now : Time) (n : Neighbour) : List Byte :=
  [addrOctet n.zone, if n.presence = .present then 1 else 0]
    ++ wordOctets ((n.lastHeard.map (sinceHeard now)).getD 65535)
    ++ ((n.last.map stateOctets).getD (List.replicate 6 0))

/-- The data of an ASK by topic and index, or none for an index beyond the topic's range or a topic outside 0 to 7. -/
def askData (topic index : Byte) (s : State) : Option (List Byte) :=
  let n := index.toNat
  match topic.toNat with
  | 0 => some (statusData s)
  | 1 => (countList s)[n]?.map wordOctets
  | 2 => s.zq.queue[n]?.map queueData
  | 3 => s.zq.expected[n]?.map expectedData
  | 4 => s.cl.calls[n]?.map (callData s.tb)
  | 5 => s.nt.entries[n]?.map (neighbourData s.tb)
  | 6 => (itemOfNumber n).map fun i => wordOctets (itemCode s.ss.running i)
  | 7 => some []
  | _ => none

/-- The code of topic RESTART. -/
def restartTopic : Byte := 7

/-- A REPLY to a panel, from the address the ASK or the setup frame was taken at. -/
def replyFrame (source target : Addr) (body : List Byte) : Frame :=
  { kind := .reply, source := source, target := target, body := body }

/-- The REPLY to an ASK from a panel, and its placing: a REPLY to RESTART that cannot be placed brings the REMOTE reset
at once (R156). -/
def replyToAsk (source target : Addr) (topic index : Byte) (s : State) : State :=
  let f := replyFrame target source (answerBody topic index (askData topic index s))
  if topic = restartTopic && !canPlace f s then resetNode .remote s else sendFrame f s

/-- SN takes an ASK at its zone number or at 63: it answers ACK, and a panel gets a REPLY. -/
def takeAsk (source target : Addr) (topic index : Byte) (s : State) : State :=
  let s := driveSlot .ack s
  if isPanel source then replyToAsk source target topic index s else s

/-! ## Setup frames (R158, R159) -/

/-- The write cycle, 40 ms. -/
def writeCycleMs : Nat := 40

/-- The body of a setup REPLY: topic 8, item number, result, value. -/
def setupReplyBody (item result : Byte) (value : Word16) : List Byte := replyBody 8 item result (wordOctets value)

/-- The results of a setup REPLY. -/
def doneResult : Byte := 0
def notEnabledResult : Byte := 2
def outOfRangeResult : Byte := 3
def lockedResult : Byte := 4
def unknownItemResult : Byte := 5

/-- Why a write is refused, by the first check of R159 that fails, or the item to be written. -/
def checkWrite (item : Byte) (value : Word16) (s : State) : Except Byte Item :=
  match itemOfNumber item.toNat with
  | none => .error unknownItemResult
  | some i =>
    if !s.ss.writeEnable then .error notEnabledResult
    else if storeLocked s.ss.store && (i == .zoneNumber || i == .role || i == .lock) then .error lockedResult
    else if value != unsetCode && !(value == defaultCode && (itemDefault i).isSome)
        && !itemInRange i value.toNat then .error outOfRangeResult
    else .ok i

/-- The value an item takes from a value written: unset for 65535, the default for 65534, and otherwise the value. -/
def writtenValue (i : Item) (value : Word16) : Option Word16 :=
  if value = unsetCode then none
  else if value = defaultCode then itemDefault i
  else some value

/-- SS decides a SETUP-WRITE that is taken (R159). -/
def decideWrite (source target : Addr) (item : Byte) (value : Word16) (s : State) : State :=
  match checkWrite item value s with
  | .error result =>
    sendFrame (replyFrame target source (setupReplyBody item result value))
      { s with ss := { s.ss with writeEnable := false } }
  | .ok i =>
    let cycle : WriteCycle :=
      { item := i, value := writtenValue i value, written := value, source := target, target := source,
        timer := startTimer s writeCycleMs }
    { s with ss := { s.ss with cycle := some cycle } }

/-- The REPLY to a SETUP-READ: the stored value, or UNKNOWN_ITEM, for which the spec states no value (R158; log entry
10). -/
def readReply (item : Byte) (s : State) : List Byte :=
  match itemOfNumber item.toNat with
  | some i => setupReplyBody item doneResult (itemCode s.ss.store i)
  | none => setupReplyBody item unknownItemResult (Config.unknownItemValue item)

/-- SS takes a setup frame: HOLD with no effect for a source that is no panel or while a write cycle runs, and otherwise
ACK and its effect (R158). -/
def takeSetup (source : Addr) (effect : State → State) (s : State) : State :=
  if isPanel source && s.ss.cycle.isNone then driveSlot .ack (effect s) else driveSlot .hold s

/-- SETUP-ENABLE sets the write-enable latch. -/
def enableWrite (s : State) : State := { s with ss := { s.ss with writeEnable := true } }

end Sys2Proof.Machine
end

