-- ==== Sys2Proof/Machine/Reception.lean ====
section
/-! DEFINITION. Machine/Reception.lean: LI's reception of a frame and its delivery to the block that owns its kind
(R148 to R150). -/

namespace Sys2Proof.Machine

/-- While the filtered RESETN is active the node takes no frame, input or timer expiry (R161). -/
def whileRunning (effect : State → State) (s : State) : State := if s.resetn then s else effect s

/-- A frame on the line has made it BUSY: an abort mark before it is over, and the node drives nothing in its reply slot
until a block decides. -/
def frameHeard (s : State) : State :=
  { s with li := { s.li with line := .busy, recessiveRun := 0, slot := .nothing, aborting := false } }

/-- LI counts a receive error (R143, R148). -/
def countReceiveError (s : State) : State :=
  { s with li := { s.li with receiveErrors := s.li.receiveErrors + 1 } }

/-- LI discards the frame and waits for the line to be released (R143). -/
def awaitRelease (s : State) : State := { s with li := { s.li with awaitRelease := true } }

/-- The test for a frame that bears the node's own zone number (R149). -/
def testDuplicate (f : Frame) (s : State) : State :=
  if ownZone s == some f.source then
    latchFault .duplicateZone 0 0 (BitVec.ofNat 16 (kindCode f.kind)) s
  else s

/-- The owner of a kind takes a frame (R144). -/
def deliver (f : Frame) (s : State) : State :=
  match f.kind with
  | .stop => takeStop f.source s
  | .go => takeGo f.source s
  | .pass => takePass f.source f.body s
  | .recall => takeRecall f.source (octetAt f.body 0) s
  | .answer | .decline => takeSettled (octetAt f.body 0) (octetAt f.body 1) s
  | .call => takeCall (octetAt f.body 0) (octetAt f.body 1) s
  | .state => takeState f.source (readStateBody f.body) s
  | .ask => takeAsk f.source f.target (octetAt f.body 0) (octetAt f.body 1) s
  | .clear => takeClear (octetAt f.body 0) s
  | .setupEnable => takeSetup f.source enableWrite s
  | .setupWrite =>
    takeSetup f.source (decideWrite f.source f.target (octetAt f.body 0) (wordAt f.body 1)) s
  | .setupRead =>
    takeSetup f.source
      (fun s => sendFrame (replyFrame f.target f.source (readReply (octetAt f.body 0) s)) s) s
  | .notice | .reply | .reserved => s

/-- A frame to the setup address is taken while the setup window runs (R155, R158, R160). -/
def deliverAtSetup (f : Frame) (s : State) : State := if s.ss.window.isSome then deliver f s else s

/-- A good frame of kinds 0 to 14 at a configured node, by its target (R148). -/
def takeGood (f : Frame) (s : State) : State :=
  if !targetAllowed f.kind f.target then
    if ownZone s == some f.target then driveSlot .hold s else s
  else if f.target = 0 || ownZone s == some f.target then deliver f s
  else if f.target = setupAddr then deliverAtSetup f s
  else s

/-- A good frame (R148 to R150). An UNCONFIGURED node takes only what comes to the setup address. -/
def acceptGood (f : Frame) (s : State) : State :=
  if f.kind = .reserved then s
  else if configured s then takeGood f (testDuplicate f s)
  else if targetAllowed f.kind f.target && f.target == setupAddr then deliverAtSetup f s
  else s

/-- LI receives a frame whose length and check fields are right (R148). A node that waits for the release of the line
receives none (R141, R143). -/
def receiveFrame (f : Frame) (s : State) : State :=
  if s.li.awaitRelease then s
  else if lengthAllowed f.kind f.body.length then acceptGood f (frameHeard s)
  else countReceiveError (frameHeard s)

/-- LI receives a complete frame with its length and check fields (R148). -/
def receiveLine (f : LineFrame) (s : State) : State :=
  if s.li.awaitRelease then s
  else if hasReceiveError f then countReceiveError (frameHeard s)
  else receiveFrame f.frame s

/-- The frame of a received STATE. -/
def stateFrame (source : Addr) (b : StateBody) : Frame :=
  { kind := .state, source := source, target := 0, body := stateOctets b }

/-- The frame of a received CALL, ANSWER or DECLINE. -/
def callFrame (kind : FrameKind) (source : Addr) (body : List Byte) : Frame :=
  { kind := kind, source := source, target := 0, body := body }

/-- The frame of a received ASK. -/
def askFrame (source target : Addr) (topic index : Byte) : Frame :=
  { kind := .ask, source := source, target := target, body := [topic, index] }

end Sys2Proof.Machine
end

