-- ==== Sys2Proof/Machine/Resets.lean ====
section
/-! DEFINITION. Machine/Resets.lean: the reset commands (R161). -/

namespace Sys2Proof.Machine

/-- What a command answers. -/
abbrev Answer := Host.Outcome State Fault Refusal

/-- POWER_RESET: the return of supply resets the node, with TB at 0 (R8, R161). -/
def execPowerReset (s : State) : Answer := .next (resetNode .power s)

/-- The node stops driving the zone line. -/
def stopDriving (s : State) : State :=
  { s with li := { s.li with tx := s.li.tx.map (fun e => { e with sending := false }), slot := .nothing,
                             aborting := false } }

/-- RESETN_ASSERTED: from now on the node holds DRIVE and GATE inactive, drives nothing on the line, and takes no frame,
input or timer expiry (R161). -/
def execResetnAsserted (s : State) : Answer := .next { stopDriving s with resetn := true }

/-- PIN_RESET: the filtered RESETN has returned inactive, and the reset is taken at that moment (R161). -/
def execPinReset (s : State) : Answer := .next (resetNode .pin s)

end Sys2Proof.Machine
end

