-- ==== Sys2Proof/Machine/Pins.lean ====
section
/-! DEFINITION. Machine/Pins.lean: the commands of the field pins: eyes, buttons, OPEN, TAGIN, ESTOP and SETUPB, each by
its filtered event (chapters 2, 3, 7, 8 and 10). -/

namespace Sys2Proof.Machine

/-! ## Entry eyes (R31 to R34, R40) -/

/-- The filtered level of an entry eye, true for blocked (R2). -/
def setEntryEye (inlet : Inlet) (blocked : Bool) (s : State) : State :=
  match inlet with
  | .one => { s with zq := { s.zq with eye1 := blocked } }
  | .two => { s with zq := { s.zq with eye2 := blocked } }

/-- Whether the node acts on an entry eye: a configured node on EYE1, and a MERGE on EYE2 too (R2, R10). -/
def takesEntryEye (inlet : Inlet) (s : State) : Bool := configured s && (inlet == .one || role s == .merge)

/-- The zone detail of a notice about an inlet: its upstream zone, or 0 (R37, R40). -/
def inletDetail (inlet : Inlet) (s : State) : Byte := ((inletZone s.ss.running inlet).map addrOctet).getD 0

/-- The value of a notice about an inlet: its number (R37, R40). -/
def inletValue (inlet : Inlet) : Word16 := BitVec.ofNat 16 (inletNumber inlet)

/-- An arrival: the matching entry leaves the expected list and its record joins the queue (R31). -/
def arrive (n : Nat) (s : State) : State :=
  match s.zq.expected[n]? with
  | none => s
  | some e => joinQueue e.record { s with zq := { s.zq with expected := s.zq.expected.eraseIdx n } }

/-- A rack seen at an inlet while the queue holds 8: OVERFULL is detected, and a matching entry is removed as LOST
(R40). -/
def overfull (inlet : Inlet) (s : State) : State :=
  let s := latchFault .overfull (inletDetail inlet s) 0 (inletValue inlet) s
  match matchingEntry inlet s with
  | none => s
  | some n => loseExpected n s

/-- ZQ takes a rack seen at an inlet (R32). -/
def rackAtInlet (inlet : Inlet) (s : State) : State :=
  if 8 ≤ s.zq.queue.length then overfull inlet s
  else
    match matchingEntry inlet s with
    | some n => arrive n s
    | none => makeStray (inletDetail inlet s) (inletValue inlet) s

/-- ENTRY_EYE_BLOCKED (R32). -/
def execEntryEyeBlocked (inlet : Inlet) (s : State) : Answer :=
  .next (whileRunning (fun s =>
    let s := setEntryEye inlet true s
    if takesEntryEye inlet s then settle (rackAtInlet inlet s) else s) s)

/-- ENTRY_EYE_CLEAR: the blocked level that breaks the quiet condition ends (R32). -/
def execEntryEyeClear (inlet : Inlet) (s : State) : Answer :=
  .next (whileRunning (fun s => settle (setEntryEye inlet false s)) s)

/-! ## The exit eye (R27, R35, R38, R39) -/

/-- The filtered level of the exit eye, true for blocked. -/
def setExitEye (blocked : Bool) (s : State) : State := { s with zq := { s.zq with eyeX := blocked } }

/-- EXIT_EYE_BLOCKED: with the queue empty a stray is made at the exit (R35), and the head is then at the exit (R27). -/
def execExitEyeBlocked (s : State) : Answer :=
  .next (whileRunning (fun s =>
    let s := setExitEye true s
    settle (if configured s && s.zq.queue.isEmpty then makeStray 0 0 s else s)) s)

/-- What ZQ and EX make of a clear exit eye (R39). -/
def rackGoneFromExit (s : State) : State :=
  if s.zq.queue.isEmpty then s
  else if s.ex.exit = .releasing then endRelease s
  else removeHead s

/-- EXIT_EYE_CLEAR: the end of a release, a removal by hand, or nothing (R39). -/
def execExitEyeClear (s : State) : Answer :=
  .next (whileRunning (fun s =>
    let s := setExitEye false s
    settle (if configured s then rackGoneFromExit s else s)) s)

/-! ## Buttons and OPEN (R118, R127, R131) -/

/-- The head made full at a LOAD: SOILED, from this station, bound to no call (R127). -/
def filled (station : Option Station) (r : RackRecord) : RackRecord :=
  { r with content := .soiled, origin := station, bound := none }

/-- RACK_FULL_PRESS: at a LOAD the head is made full; a SOILED head is left as it stands, by R127's table, in every exit
state. R127 holds a press in OFFERING to be ignored because the head is SOILED then, which leaves open the press that finds a
head that is not SOILED behind an offer withdrawn: the model's choice is the table (log entry 26). -/
def execRackFullPress (s : State) : Answer :=
  .next (whileRunning (fun s =>
    if configured s && role s = .load then
      settle (changeHead
        (fun r => if r.content = .soiled then r else filled (runningStation s.ss.running) r) s)
    else s) s)

/-- The head made empty at an UNLOAD: its tag alone is kept (R118). -/
def emptied (r : RackRecord) : RackRecord :=
  { r with content := .empty, origin := none, washes := 0, bound := none, results := [] }

/-- A press at an UNLOAD zone against its head at the exit: ignored, refused or applied by R118's table, in every exit
state. R118's last sentence holds a press in OFFERING to be ignored, which leaves open the press that finds a head that is
not EMPTY behind an offer withdrawn: the model's choice is the table (log entry 24). -/
def pressEmpty (s : State) : State :=
  match s.zq.queue with
  | [] => s
  | head :: _ =>
    if head.content = .empty then s
    else if itemNat s.ss.running .cleanRequired != 0 && head.content != .clean then
      sendNotice .unloadRefused 0 (tagWord head.tag) (BitVec.ofNat 16 (contentCode head.content)) s
    else changeHead emptied s

/-- RACK_EMPTY_PRESS (R118). -/
def execRackEmptyPress (s : State) : Answer :=
  .next (whileRunning (fun s =>
    if configured s && role s = .unload && headAtExit s then settle (pressEmpty s) else s) s)

/-- STATION_OPENED: a LOAD's station is open, and CL evaluates the need (R131). -/
def execStationOpened (s : State) : Answer :=
  .next (whileRunning (fun s =>
    if configured s && role s = .load then settle { s with cl := { s.cl with stationOpen := true } } else s) s)

/-- STATION_CLOSED: a LOAD's station is closed, and CL withdraws every outstanding call, oldest first (R131). -/
def execStationClosed (s : State) : Answer :=
  .next (whileRunning (fun s =>
    if configured s && role s = .load then
      settle (withdrawAll s.cl.calls.length { s with cl := { s.cl with stationOpen := false } })
    else s) s)

/-! ## The tag reader (R42 to R44) -/

/-- Whether ZQ takes reads and applies this one: the reader is present, the value is a tag and the window runs. -/
def takesRead (value : Word16) (s : State) : Bool :=
  configured s && itemNat s.ss.running .tagReader == 1 && (tagOfWord value).isSome && s.zq.tagWindow.isSome

/-- The tail record with a tag. -/
def tagTail (tag : Option (BitVec 12)) : List RackRecord → List RackRecord
  | [] => []
  | [r] => [{ r with tag := tag }]
  | r :: rest => r :: tagTail tag rest

/-- A read applied to the tail record: TAG_CHANGED is sent when it replaces a different tag (R44). -/
def applyRead (value : Word16) (s : State) : State :=
  match s.zq.queue.getLast? with
  | none => s
  | some r =>
    let tagged := { s with zq := { s.zq with queue := tagTail (tagOfWord value) s.zq.queue } }
    if r.tag.isNone || r.tag == tagOfWord value then tagged
    else sendNotice .tagChanged 0 value (tagWord r.tag) tagged

/-- TAG_READ (R42). -/
def execTagRead (value : Word16) (s : State) : Answer :=
  .next (whileRunning (fun s => if takesRead value s then applyRead value s else s) s)

/-! ## ESTOP and SETUPB (R152, R160) -/

/-- The STOP repeat, 1 s. -/
def stopRepeatMs : Nat := 1000

/-- The e-stop release, 1 s. -/
def estopReleaseMs : Nat := 1000

/-- SN places a STOP and starts the STOP repeat (R152). -/
def sendStop (s : State) : State :=
  let s := sendFrame (ownFrame s .stop 0 []) s
  { s with sn := { s.sn with stopRepeat := some (startTimer s stopRepeatMs) } }

/-- The local term becomes true, a release timer that runs is cancelled, and a STOP is placed. -/
def pressEstop (s : State) : State :=
  sendStop { s with sn := { s.sn with estop := true, localTerm := true, estopRelease := none } }

/-- ESTOP_ACTIVE (R17, R152). -/
def execEstopActive (s : State) : Answer :=
  .next (whileRunning (fun s => settle (changeTerms pressEstop s)) s)

/-- ESTOP_RELEASED: the STOP repeat is cancelled and the e-stop release starts (R152). -/
def execEstopReleased (s : State) : Answer :=
  .next (whileRunning (fun s =>
    if s.sn.estop then
      { s with sn := { s.sn with estop := false, stopRepeat := none,
                                 estopRelease := some (startTimer s estopReleaseMs) } }
    else s) s)

/-- The setup window, 120 s. -/
def setupWindowMs : Nat := 120000

/-- SETUP_BUTTON_PRESS starts the setup window, or restarts it at its full 120 s (R160). -/
def execSetupButtonPress (s : State) : Answer :=
  .next (whileRunning (fun s =>
    { s with ss := { s.ss with window := some (startTimer s setupWindowMs) } }) s)

end Sys2Proof.Machine
end

