-- ==== Sys2Proof/Machine/Timers.lean ====
section
/-! DEFINITION. Machine/Timers.lean: the expiries of the node's timers (R8), but for the sample period. A command that
names a timer that is not running has no effect. -/

namespace Sys2Proof.Machine

/-! ## SN's timers -/

/-- The sample period timer at its full period (R95). -/
def startSampling (s : State) : State :=
  { s with su := { s.su with period := some (startTimer s (itemNat s.ss.running .samplePeriod)) } }

/-- START_HOLD_EXPIRY: the start hold's term becomes false, and a configured node begins to sample (R20, R95). -/
def execStartHoldExpiry (s : State) : Answer :=
  .next (whileRunning (fun s => onExpiry s.sn.startHold (fun s =>
    let s := changeTerms (fun s => { s with sn := { s.sn with startHold := none } }) s
    settle (if configured s then startSampling s else s)) s) s)

/-- QUIET_TIMER_EXPIRY: a RECOVERING node becomes SERVING (R12). -/
def execQuietTimerExpiry (s : State) : Answer :=
  .next (whileRunning (fun s =>
    if s.sn.service = .recovering then
      onExpiry s.sn.quiet (fun s => settle { s with sn := { s.sn with service := .serving, quiet := none } }) s
    else s) s)

/-- The e-stop release is complete: the local term becomes false and one GO is placed (R152). -/
def releaseEstop (s : State) : State :=
  sendFrame (ownFrame s .go 0 []) { s with sn := { s.sn with localTerm := false, estopRelease := none } }

/-- E_STOP_RELEASE_EXPIRY (R17, R152). -/
def execEstopReleaseExpiry (s : State) : Answer :=
  .next (whileRunning (fun s => onExpiry s.sn.estopRelease (fun s => settle (changeTerms releaseEstop s)) s) s)

/-- STOP_REPEAT_EXPIRY: another STOP is placed and the timer restarts (R152). -/
def execStopRepeatExpiry (s : State) : Answer :=
  .next (whileRunning (fun s => onExpiry s.sn.stopRepeat sendStop s) s)

/-- A latched fault's NOTICE again, with the fields kept, and its repeat timer restarted (R153). -/
def repeatNotice (k : FaultKind) (f : LatchedFault) (s : State) : State :=
  let again := { f with renotice := some (startTimer s noticeRepeatMs) }
  sendNotice (.fault k) f.detail f.tag f.value
    { s with sn := { s.sn with faults := setLatched s.sn.faults k (some again) } }

/-- NOTICE_REPEAT_EXPIRY (R153). -/
def execNoticeRepeatExpiry (kind : FaultKind) (s : State) : Answer :=
  .next (whileRunning (fun s =>
    match latched? s.sn.faults kind with
    | none => s
    | some f => onExpiry f.renotice (repeatNotice kind f) s) s)

/-! ## ZQ's timers -/

/-- TAG_READ_WINDOW_EXPIRY: later reads are discarded until the next join (R43). -/
def execTagReadWindowExpiry (s : State) : Answer :=
  .next (whileRunning (fun s =>
    onExpiry s.zq.tagWindow (fun s => { s with zq := { s.zq with tagWindow := none } }) s) s)

/-- ARRIVAL_WINDOW_EXPIRY of the entry at a place of the expected list: it is removed as LOST (R76). -/
def execArrivalWindowExpiry (index : Nat) (s : State) : Answer :=
  .next (whileRunning (fun s =>
    match s.zq.expected[index]? with
    | none => s
    | some e => onExpiry e.window (fun s => settle (loseExpected index s)) s) s)

/-! ## EX's and DC's timers -/

/-- HOLD_OFF_EXPIRY: EX tests the offer condition again (R52). -/
def execHoldOffExpiry (s : State) : Answer :=
  .next (whileRunning (fun s => onExpiry s.ex.holdOff (fun s =>
    settle { s with ex := { s.ex with holdOff := none, holdOffZone := none } }) s) s)

/-- DIVERTER_TRAVEL_EXPIRY: the diverter is settled and EX goes to RELEASING (R54). -/
def execDiverterTravelExpiry (s : State) : Answer :=
  .next (whileRunning (fun s =>
    if s.ex.exit = .switching then onExpiry s.ex.travel (fun s => settle (travelDone s)) s else s) s)

/-- The release limit has run out: the gate closes, RECALL is sent, EX is CLOSED, and EXIT_STUCK is detected with the
recalled offer's zone and serial and the head's tag (R57, R58). -/
def releaseStuck (s : State) : State :=
  let detail := ((s.ex.outlet.bind (outletZone s.ss.running)).map addrOctet).getD 0
  let tag := tagWord (s.zq.queue.head?.bind (·.tag))
  let value := (s.ex.serial.getD 0).setWidth 16
  latchFault .exitStuck detail tag value (recallOffer false s)

/-- RELEASE_LIMIT_EXPIRY (R57). -/
def execReleaseLimitExpiry (s : State) : Answer :=
  .next (whileRunning (fun s =>
    if s.ex.exit = .releasing then onExpiry s.ex.release (fun s => settle (releaseStuck s)) s else s) s)

/-- RUN_ON_EXPIRY: DC tests the RUN condition (R60). -/
def execRunOnExpiry (s : State) : Answer :=
  .next (whileRunning (fun s => onExpiry s.dc.runOn (fun s => settle (cancelRunOn s)) s) s)

/-! ## NT's timers -/

/-- A neighbour falls silent: its entry becomes ABSENT, with its last STATE kept (R65). -/
def silenced (n : Neighbour) : Neighbour := { n with presence := .absent, silence := none }

/-- NT marks a neighbour ABSENT and broadcasts NEIGHBOUR_LOST (R65). -/
def loseNeighbour (zone : Addr) (s : State) : State :=
  let entries := s.nt.entries.map fun n => if n.zone == zone then silenced n else n
  sendNotice .neighbourLost (addrOctet zone) 0 0 { s with nt := { s.nt with entries := entries } }

/-- NEIGHBOUR_SILENCE_EXPIRY of a neighbour's entry (R65). -/
def execNeighbourSilenceExpiry (zone : Addr) (s : State) : Answer :=
  .next (whileRunning (fun s =>
    match neighbour? s zone with
    | none => s
    | some n => onExpiry n.silence (fun s => settle (loseNeighbour zone s)) s) s)

/-- STATE_PERIOD_EXPIRY: NT places a STATE and restarts the period (R67). -/
def execStatePeriodExpiry (s : State) : Answer :=
  .next (whileRunning (fun s => onExpiry s.nt.period placeState s) s)

/-! ## CL's timers -/

/-- The entry of a LOAD's call list under a serial. -/
def callOfSerial (serial : Byte) (s : State) : Option CallEntry :=
  s.cl.calls.find? fun e => e.key.serial == serial

/-- A LOAD's call is stated again, and its timer restarts (R129). -/
def repeatCall (e : CallEntry) (s : State) : State :=
  let again : CallEntry := { e with lastHeard := s.tb, timer := some (startTimer s callRepeatMs) }
  sendFrame (ownFrame s .call 0 (callBody e.key))
    { s with cl := { s.cl with calls := s.cl.calls.map fun c => if c.key == e.key then again else c } }

/-- CALL_REPEAT_EXPIRY of an outstanding call (R129). -/
def execCallRepeatExpiry (serial : Byte) (s : State) : Answer :=
  .next (whileRunning (fun s =>
    match role s, callOfSerial serial s with
    | .load, some e => onExpiry e.timer (repeatCall e) s
    | _, _ => s) s)

/-- A SPUR's entry leaves the list (R125). -/
def expireCall (key : CallKey) (s : State) : State :=
  { s with cl := { s.cl with calls := s.cl.calls.filter fun e => e.key != key } }

/-- CALL_EXPIRY of a SPUR's entry (R125). -/
def execCallExpiry (station : Station) (serial : Byte) (s : State) : Answer :=
  .next (whileRunning (fun s =>
    match role s, s.cl.calls.find? fun e => e.key == { station := station, serial := serial } with
    | .spur, some e => onExpiry e.timer (fun s => settle (expireCall e.key s)) s
    | _, _ => s) s)

/-! ## SS's timers -/

/-- SETUP_WINDOW_EXPIRY: frames to 63 are discarded again (R160). -/
def execSetupWindowExpiry (s : State) : Answer :=
  .next (whileRunning (fun s =>
    onExpiry s.ss.window (fun s => { s with ss := { s.ss with window := none } }) s) s)

/-- The write cycle completes: the item takes its value, the latch is cleared and REPLY DONE is placed (R159). -/
def completeWrite (w : WriteCycle) (s : State) : State :=
  sendFrame (replyFrame w.source w.target (setupReplyBody (octet (itemNumber w.item)) doneResult w.written))
    { s with ss := { s.ss with store := setItem s.ss.store w.item w.value, writeEnable := false, cycle := none } }

/-- WRITE_CYCLE_COMPLETION (R159). -/
def execWriteCycleCompletion (s : State) : Answer :=
  .next (whileRunning (fun s =>
    match s.ss.cycle with
    | none => s
    | some w => onExpiry (some w.timer) (completeWrite w) s) s)

end Sys2Proof.Machine
end

