-- ==== Sys2Proof/Machine/Sampling.lean ====
section
/-! DEFINITION. Machine/Sampling.lean: SAMPLE_COMPLETION with the two conversions, jam judgement, probe faults and rinse
credit (chapters 3 and 6). -/

namespace Sys2Proof.Machine

/-- A rail code of either channel: 8 or less, or 4087 or more (R96, R98). -/
def railCode (c : AdcCode) : Bool := c.toNat ≤ 8 || 4087 ≤ c.toNat

/-- The drive current in mA: the floor of c × I_span / 4095, and I_span for a rail code (R96). -/
def currentOf (span : Nat) (c : AdcCode) : Nat := if railCode c then span else c.toNat * span / 4095

/-- The temperature in tenths of a degree: T_lo plus the floor of c × (T_hi − T_lo) / 4095 (R97). -/
def temperatureOf (tLo tHi : Int) (c : AdcCode) : Int := tLo + (c.toNat : Int) * (tHi - tLo) / 4095

/-- SU computes a temperature where both span endpoints are set and in order (R97). -/
def sampleTemperature (c : Items) (probe : AdcCode) : Option Int :=
  if (itemValue c .tLo).isSome && (itemValue c .tHi).isSome && itemNat c .tLo < itemNat c .tHi then
    some (temperatureOf (itemTenths c .tLo) (itemTenths c .tHi) probe)
  else none

/-- The weight of a good sample, per mille (R102). -/
def sampleWeight (tMin tFull t : Int) : Nat :=
  if t ≤ tMin then 0
  else if tFull ≤ t then 1000
  else (1000 * (t - tMin) / (tFull - tMin)).toNat

/-- The increment of a good sample: the floor of w × P / 1,000 (R103). -/
def sampleIncrement (weight period : Nat) : Nat := weight * period / 1000

/-- The increment of a probe code under the running thresholds. -/
def creditOf (c : Items) (probe : AdcCode) : Nat :=
  sampleIncrement
    (sampleWeight (itemTenths c .tMin) (itemTenths c .tFull)
      (temperatureOf (itemTenths c .tLo) (itemTenths c .tHi) probe))
    (itemNat c .samplePeriod)

/-- A change of every PENDING entry of a record. -/
def changePending (f : StageResult → StageResult) (r : RackRecord) : RackRecord :=
  { r with results := r.results.map fun e => if e.verdict = .pending then f e else e }

/-- Credit added to an entry, up to 65,535 (R103). -/
def addCredit (inc : Nat) (e : StageResult) : StageResult := { e with credit := min 65535 (e.credit + inc) }

/-- The fault-seen flag set in an entry (R98). -/
def markFault (e : StageResult) : StageResult := { e with faultSeen := true }

/-- A change of every record in the queue. -/
def changeQueue (f : RackRecord → RackRecord) (s : State) : State :=
  { s with zq := { s.zq with queue := s.zq.queue.map f } }

/-- The consecutive-fault count. -/
def setFaultCount (n : Nat) (s : State) : State := { s with su := { s.su with faultCount := n } }

/-- A faulted sample: fault-seen is set in every PENDING entry, the count rises to at most 3, and at 3 it is a detection
of PROBE (R98, R99). -/
def faultedSample (probe : AdcCode) (s : State) : State :=
  let n := min (s.su.faultCount + 1) 3
  let s := setFaultCount n (changeQueue (changePending markFault) s)
  if n = 3 then latchFault .probe 0 0 (probe.setWidth 16) s else s

/-- A good sample: the count returns to 0, and every PENDING entry gains the increment unless the node is halted
(R98, R103, R104). -/
def goodSample (probe : AdcCode) (s : State) : State :=
  let s := setFaultCount 0 s
  if halted s then s else changeQueue (changePending (addCredit (creditOf s.ss.running probe))) s

/-- DC judges the current of a sample (R62). -/
def judgeCurrent (current : Nat) (s : State) : State :=
  let iJam := itemNat s.ss.running .iJam
  if s.dc.drive = .off || iJam == 0 then s
  else if 0 < s.dc.skip then { s with dc := { s.dc with skip := s.dc.skip - 1 } }
  else if current < iJam then { s with dc := { s.dc with high := 0 } }
  else if s.dc.high + 1 < 3 then { s with dc := { s.dc with high := s.dc.high + 1 } }
  else latchFault .jam 0 0 (BitVec.ofNat 16 current) { s with dc := { s.dc with high := 0 } }

/-- SU takes the codes of a sample, replaces its last values and restarts the period (R95 to R97). -/
def convert (probe current : AdcCode) (s : State) : State :=
  { s with su := { s.su with
      period := some (startTimer s (itemNat s.ss.running .samplePeriod))
      lastProbe := some probe
      lastTemperature := sampleTemperature s.ss.running probe
      lastCurrentCode := some current
      lastCurrent := some (currentOf (itemNat s.ss.running .iSpan) current) } }

/-- A sample completion: the current goes to DC, and in a WASH zone the probe result goes to ZQ and SN (R95). -/
def takeSample (probe current : AdcCode) (s : State) : State :=
  let s := judgeCurrent (currentOf (itemNat s.ss.running .iSpan) current) (convert probe current s)
  if role s = .wash then
    if railCode probe then faultedSample probe s else goodSample probe s
  else s

/-- SAMPLE_COMPLETION (R95). -/
def execSampleCompletion (probe current : AdcCode) (s : State) : Answer :=
  .next (whileRunning (fun s => onExpiry s.su.period (takeSample probe current) s) s)

end Sys2Proof.Machine
end

