-- ==== Sys2Proof/Machine/Line.lean ====
section
/-! DEFINITION. Machine/Line.lean: the events of the zone line: release, busy, sending, arbitration, self-check, the reply
slot and the errors of reception (chapter 9). -/

namespace Sys2Proof.Machine

/-! ## The state of the line (R141) -/

/-- LINE_RELEASED: ten recessive bit times in a row have been seen. -/
def execLineReleased (s : State) : Answer :=
  .next (whileRunning (fun s =>
    { s with li := { s.li with line := .released, recessiveRun := 10, awaitRelease := false, slot := .nothing,
                               aborting := false } }) s)

/-- LINE_BUSY: another station's start bit makes a released line BUSY, and the node becomes a receiver of its frame. -/
def execLineBusy (s : State) : Answer :=
  .next (whileRunning (fun s => if s.li.line = .released then frameHeard s else s) s)

/-! ## Sending (R145 to R147) -/

/-- Whether an entry is sent before another: the lower kind code first, and the older, which stands first in the list,
among frames of one kind. -/
def sendsBefore (a b : TxEntry) : Bool := kindCode a.frame.kind < kindCode b.frame.kind

/-- The place of the frame LI sends next, where the best so far stands at `best`. -/
def nextFrom (best : Nat × TxEntry) (n : Nat) : List TxEntry → Nat
  | [] => best.1
  | e :: rest => if sendsBefore e best.2 then nextFrom (n, e) (n + 1) rest else nextFrom best (n + 1) rest

/-- The place of the first frame of the transmit list in kind and age order (R145). -/
def nextToSend : List TxEntry → Option Nat
  | [] => none
  | e :: rest => some (nextFrom (0, e) 1 rest)

/-- A change of the entry at a place of the transmit list. -/
def changeEntry (f : TxEntry → TxEntry) (n : Nat) (s : State) : State :=
  { s with li := { s.li with tx := s.li.tx.modify n f } }

/-- FRAME_SEND_START: with the line released, LI starts the first frame of its transmit list (R145, R146). -/
def execFrameSendStart (s : State) : Answer :=
  .next (whileRunning (fun s =>
    if s.li.line = .released && !s.li.tx.any (·.sending) then
      match nextToSend s.li.tx with
      | none => s
      | some n => frameHeard (changeEntry (fun e => { e with sending := true }) n s)
    else s) s)

/-- The place of the frame being sent. -/
def sendingPlace (s : State) : Option Nat := s.li.tx.findIdx? (·.sending)

/-- The frame being sent, with its place. -/
def sendingEntry (s : State) : Option (Nat × TxEntry) :=
  (sendingPlace s).bind fun n => s.li.tx[n]?.map fun e => (n, e)

/-- An entry after a transmission that did not complete: a STATE's replacement takes it with attempt count 0 (R145), and
any other frame waits for the next release. -/
def stoppedEntry (e : TxEntry) : TxEntry :=
  match e.replacement with
  | some f => freshEntry f
  | none => { e with sending := false }

/-- ARBITRATION_LOST: the frame stays in the list with its attempt count unchanged (R146). -/
def execArbitrationLost (s : State) : Answer :=
  .next (whileRunning (fun s =>
    match sendingPlace s with
    | none => s
    | some n => changeEntry stoppedEntry n s) s)

/-- The entry at a place leaves the transmit list, and a STATE's replacement takes its entry as a new frame (R145). -/
def leaveList (n : Nat) (e : TxEntry) (s : State) : State :=
  let tx := s.li.tx.eraseIdx n
  { s with li := { s.li with tx := match e.replacement with
                                   | some f => tx ++ [freshEntry f]
                                   | none => tx } }

/-- How a frame can end (R147). -/
inductive SendOutcome where
  | acknowledged | held | failed
deriving DecidableEq, Repr

/-- A frame that is the REPLY to an ASK RESTART. -/
def isRestartReply (f : Frame) : Bool := f.kind == .reply && octetAt f.body 0 == restartTopic

/-- The owner is told how an addressed frame ended: EX settles a PASS (R50, R51), a REPLY to RESTART brings the REMOTE
reset (R156), and no other owner acts on it. -/
def tellOwner (outcome : SendOutcome) (f : Frame) (s : State) : State :=
  if isRestartReply f then resetNode .remote s
  else if f.kind = .pass && s.ex.exit == .offering then
    settle (match outcome with
      | .acknowledged => acceptOffer (wordAt f.body 1) s
      | .held => refuseOffer (some f.target) s
      | .failed => refuseOffer none s)
  else s

/-- A frame has run out of attempts: it leaves the list, line drops rises, LINE_DROP is placed unless the frame is itself
a NOTICE, and the owner is told (R147). -/
def failFrame (n : Nat) (e : TxEntry) (s : State) : State :=
  let s := leaveList n e s
  let s := { s with li := { s.li with lineDrops := s.li.lineDrops + 1 } }
  let s := if e.frame.kind = .notice then s
    else sendNotice .lineDrop (addrOctet e.frame.target) 0 (BitVec.ofNat 16 (kindCode e.frame.kind)) s
  tellOwner .failed e.frame s

/-- A self-check or no-reply error of the frame being sent: its attempt count rises, and at 8 it fails; the error of a
STATE that has a replacement is not counted against the replacement (R145 to R147). -/
def failAttempt (n : Nat) (e : TxEntry) (s : State) : State :=
  if e.replacement.isSome then changeEntry stoppedEntry n s
  else if 8 ≤ e.attempts + 1 then failFrame n e s
  else changeEntry (fun e => { e with attempts := e.attempts + 1, sending := false }) n s

/-- LI stops the frame it is sending and drives the abort mark (R146). -/
def sendAbort (s : State) : State := { s with li := { s.li with aborting := true } }

/-- SELF_CHECK_ERROR: the sender sends the abort mark and counts the attempt (R146). -/
def execSelfCheckError (s : State) : Answer :=
  .next (whileRunning (fun s =>
    match sendingEntry s with
    | none => s
    | some (n, e) => failAttempt n e (sendAbort s)) s)

/-- BROADCAST_SENT: a frame with target 0 is complete at the end of its check (R147). -/
def execBroadcastSent (s : State) : Answer :=
  .next (whileRunning (fun s =>
    match sendingEntry s with
    | none => s
    | some (n, e) => if e.frame.target = 0 then leaveList n e s else s) s)

/-- REPLY_SLOT_READ: the sender of an addressed frame reads the ACK and HOLD bits, true for dominant (R147). -/
def execReplySlotRead (ack hold : Bool) (s : State) : Answer :=
  .next (whileRunning (fun s =>
    match sendingEntry s with
    | none => s
    | some (n, e) =>
      if e.frame.target = 0 then s
      else if hold then tellOwner .held e.frame (leaveList n e s)
      else if ack then tellOwner .acknowledged e.frame (leaveList n e s)
      else failAttempt n e s) s)

/-! ## Errors of reception (R143, R148) -/

/-- A frame in reception is given up: the node waits for the line to be released. -/
def abandonFrame (s : State) : State := awaitRelease (frameHeard s)

/-- INSERTION_ERROR: the frame is discarded, with 1 receive error counted (R143). -/
def execInsertionError (s : State) : Answer :=
  .next (whileRunning (fun s => if s.li.awaitRelease then s else countReceiveError (abandonFrame s)) s)

/-- ABORT_MARK: the partial frame is discarded, with no receive error counted (R143). -/
def execAbortMark (s : State) : Answer :=
  .next (whileRunning (fun s => if s.li.awaitRelease then s else abandonFrame s) s)

/-- RECEIVE_ERROR: a complete frame that fails a check is discarded and counted (R148). -/
def execReceiveError (frame : LineFrame) (s : State) : Answer := .next (whileRunning (receiveLine frame) s)

/-- FRAME_IGNORED: a good frame of kind 15, or one whose target is not allowed for its kind or is not this node (R148). -/
def execFrameIgnored (frame : Frame) (s : State) : Answer := .next (whileRunning (receiveFrame frame) s)

end Sys2Proof.Machine
end

