-- ==== Sys2Proof/Machine/Received.lean ====
section
/-! DEFINITION. Machine/Received.lean: the good frames a node receives, each taken by R148 and its owner's rule. -/

namespace Sys2Proof.Machine

/-- STOP_RECEIVED (R151). -/
def execStopReceived (source : Addr) (s : State) : Answer :=
  .next (whileRunning (receiveFrame { kind := .stop, source := source, target := 0, body := [] }) s)

/-- GO_RECEIVED (R151). -/
def execGoReceived (source : Addr) (s : State) : Answer :=
  .next (whileRunning (receiveFrame { kind := .go, source := source, target := 0, body := [] }) s)

/-- PASS_RECEIVED (R71). -/
def execPassReceived (source target : Addr) (body : List Byte) (s : State) : Answer :=
  .next (whileRunning (receiveFrame { kind := .pass, source := source, target := target, body := body }) s)

/-- RECALL_RECEIVED (R77). -/
def execRecallReceived (source target : Addr) (serial : Byte) (s : State) : Answer :=
  .next (whileRunning (receiveFrame { kind := .recall, source := source, target := target, body := [serial] }) s)

/-- STATE_RECEIVED (R64). -/
def execStateReceived (source : Addr) (body : StateBody) (s : State) : Answer :=
  .next (whileRunning (receiveFrame (stateFrame source body)) s)

/-- CALL_RECEIVED (R123). -/
def execCallReceived (source : Addr) (station serial : Byte) (s : State) : Answer :=
  .next (whileRunning (receiveFrame (callFrame .call source [station, serial])) s)

/-- ANSWER_RECEIVED (R124). -/
def execAnswerReceived (source : Addr) (station serial : Byte) (tag : Word16) (s : State) : Answer :=
  .next (whileRunning (receiveFrame (callFrame .answer source ([station, serial] ++ wordOctets tag))) s)

/-- DECLINE_RECEIVED (R124). -/
def execDeclineReceived (source : Addr) (station serial : Byte) (s : State) : Answer :=
  .next (whileRunning (receiveFrame (callFrame .decline source [station, serial])) s)

/-- NOTICE_RECEIVED: every node discards it (R148). -/
def execNoticeReceived (source : Addr) (kind detail : Byte) (tag value : Word16) (s : State) : Answer :=
  .next (whileRunning (receiveFrame
    { kind := .notice, source := source, target := 0, body := [kind, detail] ++ wordOctets tag ++ wordOctets value }) s)

/-- REPLY_RECEIVED: it is discarded, with HOLD when it is addressed to the node's zone number (R148). -/
def execReplyReceived (source target : Addr) (body : List Byte) (s : State) : Answer :=
  .next (whileRunning (receiveFrame { kind := .reply, source := source, target := target, body := body }) s)

/-- CLEAR (R154). -/
def execClear (source target : Addr) (code : Byte) (s : State) : Answer :=
  .next (whileRunning (receiveFrame { kind := .clear, source := source, target := target, body := [code] }) s)

/-- ASK_STATUS (R155). -/
def execAskStatus (source target : Addr) (index : Byte) (s : State) : Answer :=
  .next (whileRunning (receiveFrame (askFrame source target 0 index)) s)

/-- ASK_COUNTS (R155). -/
def execAskCounts (source target : Addr) (index : Byte) (s : State) : Answer :=
  .next (whileRunning (receiveFrame (askFrame source target 1 index)) s)

/-- ASK_QUEUE (R155). -/
def execAskQueue (source target : Addr) (index : Byte) (s : State) : Answer :=
  .next (whileRunning (receiveFrame (askFrame source target 2 index)) s)

/-- ASK_EXPECTED (R155). -/
def execAskExpected (source target : Addr) (index : Byte) (s : State) : Answer :=
  .next (whileRunning (receiveFrame (askFrame source target 3 index)) s)

/-- ASK_CALLS (R155). -/
def execAskCalls (source target : Addr) (index : Byte) (s : State) : Answer :=
  .next (whileRunning (receiveFrame (askFrame source target 4 index)) s)

/-- ASK_NEIGHBOUR (R155). -/
def execAskNeighbour (source target : Addr) (index : Byte) (s : State) : Answer :=
  .next (whileRunning (receiveFrame (askFrame source target 5 index)) s)

/-- ASK_RUNNING (R155). -/
def execAskRunning (source target : Addr) (index : Byte) (s : State) : Answer :=
  .next (whileRunning (receiveFrame (askFrame source target 6 index)) s)

/-- ASK_RESTART (R156). -/
def execAskRestart (source target : Addr) (index : Byte) (s : State) : Answer :=
  .next (whileRunning (receiveFrame (askFrame source target restartTopic index)) s)

/-- ASK_TOPIC_OUTSIDE_RANGE (R155). -/
def execAskTopicOutsideRange (source target : Addr) (topic index : Byte) (s : State) : Answer :=
  .next (whileRunning (receiveFrame (askFrame source target topic index)) s)

/-- SETUP_ENABLE (R158). -/
def execSetupEnable (source target : Addr) (s : State) : Answer :=
  .next (whileRunning (receiveFrame { kind := .setupEnable, source := source, target := target, body := [] }) s)

/-- SETUP_WRITE (R159). -/
def execSetupWrite (source target : Addr) (item : Byte) (value : Word16) (s : State) : Answer :=
  .next (whileRunning (receiveFrame
    { kind := .setupWrite, source := source, target := target, body := [item] ++ wordOctets value }) s)

/-- SETUP_READ (R158). -/
def execSetupRead (source target : Addr) (item : Byte) (s : State) : Answer :=
  .next (whileRunning (receiveFrame { kind := .setupRead, source := source, target := target, body := [item] }) s)

end Sys2Proof.Machine
end

