-- ==== Sys2Proof/Machine/Dispatch.lean ====
section
/-! DEFINITION. Machine/Dispatch.lean: one arm per command. -/

namespace Sys2Proof.Machine

def exec (i : Instr) (s : State) : Host.Outcome State Fault Refusal :=
  match i with
  | .powerReset => Sys2Proof.Machine.execPowerReset s
  | .resetnAsserted => Sys2Proof.Machine.execResetnAsserted s
  | .pinReset => Sys2Proof.Machine.execPinReset s
  | .entryEyeBlocked inlet => Sys2Proof.Machine.execEntryEyeBlocked inlet s
  | .entryEyeClear inlet => Sys2Proof.Machine.execEntryEyeClear inlet s
  | .exitEyeBlocked => Sys2Proof.Machine.execExitEyeBlocked s
  | .exitEyeClear => Sys2Proof.Machine.execExitEyeClear s
  | .rackFullPress => Sys2Proof.Machine.execRackFullPress s
  | .rackEmptyPress => Sys2Proof.Machine.execRackEmptyPress s
  | .stationOpened => Sys2Proof.Machine.execStationOpened s
  | .stationClosed => Sys2Proof.Machine.execStationClosed s
  | .tagRead value => Sys2Proof.Machine.execTagRead value s
  | .estopActive => Sys2Proof.Machine.execEstopActive s
  | .estopReleased => Sys2Proof.Machine.execEstopReleased s
  | .setupButtonPress => Sys2Proof.Machine.execSetupButtonPress s
  | .startHoldExpiry => Sys2Proof.Machine.execStartHoldExpiry s
  | .quietTimerExpiry => Sys2Proof.Machine.execQuietTimerExpiry s
  | .estopReleaseExpiry => Sys2Proof.Machine.execEstopReleaseExpiry s
  | .stopRepeatExpiry => Sys2Proof.Machine.execStopRepeatExpiry s
  | .tagReadWindowExpiry => Sys2Proof.Machine.execTagReadWindowExpiry s
  | .arrivalWindowExpiry index => Sys2Proof.Machine.execArrivalWindowExpiry index s
  | .holdOffExpiry => Sys2Proof.Machine.execHoldOffExpiry s
  | .diverterTravelExpiry => Sys2Proof.Machine.execDiverterTravelExpiry s
  | .releaseLimitExpiry => Sys2Proof.Machine.execReleaseLimitExpiry s
  | .runOnExpiry => Sys2Proof.Machine.execRunOnExpiry s
  | .neighbourSilenceExpiry zone => Sys2Proof.Machine.execNeighbourSilenceExpiry zone s
  | .statePeriodExpiry => Sys2Proof.Machine.execStatePeriodExpiry s
  | .sampleCompletion probe current => Sys2Proof.Machine.execSampleCompletion probe current s
  | .callRepeatExpiry serial => Sys2Proof.Machine.execCallRepeatExpiry serial s
  | .callExpiry station serial => Sys2Proof.Machine.execCallExpiry station serial s
  | .noticeRepeatExpiry kind => Sys2Proof.Machine.execNoticeRepeatExpiry kind s
  | .setupWindowExpiry => Sys2Proof.Machine.execSetupWindowExpiry s
  | .writeCycleCompletion => Sys2Proof.Machine.execWriteCycleCompletion s
  | .lineReleased => Sys2Proof.Machine.execLineReleased s
  | .frameSendStart => Sys2Proof.Machine.execFrameSendStart s
  | .arbitrationLost => Sys2Proof.Machine.execArbitrationLost s
  | .selfCheckError => Sys2Proof.Machine.execSelfCheckError s
  | .broadcastSent => Sys2Proof.Machine.execBroadcastSent s
  | .replySlotRead ack hold => Sys2Proof.Machine.execReplySlotRead ack hold s
  | .insertionError => Sys2Proof.Machine.execInsertionError s
  | .abortMark => Sys2Proof.Machine.execAbortMark s
  | .receiveError frame => Sys2Proof.Machine.execReceiveError frame s
  | .frameIgnored frame => Sys2Proof.Machine.execFrameIgnored frame s
  | .stopReceived source => Sys2Proof.Machine.execStopReceived source s
  | .goReceived source => Sys2Proof.Machine.execGoReceived source s
  | .passReceived source target body => Sys2Proof.Machine.execPassReceived source target body s
  | .recallReceived source target serial => Sys2Proof.Machine.execRecallReceived source target serial s
  | .stateReceived source body => Sys2Proof.Machine.execStateReceived source body s
  | .callReceived source station serial => Sys2Proof.Machine.execCallReceived source station serial s
  | .answerReceived source station serial tag => Sys2Proof.Machine.execAnswerReceived source station serial tag s
  | .declineReceived source station serial => Sys2Proof.Machine.execDeclineReceived source station serial s
  | .noticeReceived source kind detail tag value => Sys2Proof.Machine.execNoticeReceived source kind detail tag value s
  | .replyReceived source target body => Sys2Proof.Machine.execReplyReceived source target body s
  | .clear source target code => Sys2Proof.Machine.execClear source target code s
  | .askStatus source target index => Sys2Proof.Machine.execAskStatus source target index s
  | .askCounts source target index => Sys2Proof.Machine.execAskCounts source target index s
  | .askQueue source target index => Sys2Proof.Machine.execAskQueue source target index s
  | .askExpected source target index => Sys2Proof.Machine.execAskExpected source target index s
  | .askCalls source target index => Sys2Proof.Machine.execAskCalls source target index s
  | .askNeighbour source target index => Sys2Proof.Machine.execAskNeighbour source target index s
  | .askRunning source target index => Sys2Proof.Machine.execAskRunning source target index s
  | .askRestart source target index => Sys2Proof.Machine.execAskRestart source target index s
  | .setupEnable source target => Sys2Proof.Machine.execSetupEnable source target s
  | .setupWrite source target item value => Sys2Proof.Machine.execSetupWrite source target item value s
  | .setupRead source target item => Sys2Proof.Machine.execSetupRead source target item s
  | .lineBusy => Sys2Proof.Machine.execLineBusy s
  | .askTopicOutsideRange source target topic index => Sys2Proof.Machine.execAskTopicOutsideRange source target topic index s

end Sys2Proof.Machine
end

