-- ==== Sys2Proof/Machine/Timebase.lean ====
section
/-! DEFINITION. Machine/Timebase.lean: what the time base does while no command waits (R8): a timer that is due expires,
and otherwise a millisecond passes. -/

namespace Sys2Proof.Machine

/-! ## The timers by the commands of their expiries (R8) -/

/-- The timer whose expiry a command is, when it is running: the quiet timer in RECOVERING only (R12), travel in
SWITCHING and the release timer in RELEASING (R54, R57), the repeat of a call at a LOAD and its expiry at a SPUR
(R122). -/
def timerOf (c : Instr) (s : State) : Option Timer :=
  match c with
  | .startHoldExpiry => s.sn.startHold
  | .quietTimerExpiry => if s.sn.service = .recovering then s.sn.quiet else none
  | .estopReleaseExpiry => s.sn.estopRelease
  | .stopRepeatExpiry => s.sn.stopRepeat
  | .tagReadWindowExpiry => s.zq.tagWindow
  | .arrivalWindowExpiry n => s.zq.expected[n]?.bind (·.window)
  | .holdOffExpiry => s.ex.holdOff
  | .diverterTravelExpiry => if s.ex.exit = .switching then s.ex.travel else none
  | .releaseLimitExpiry => if s.ex.exit = .releasing then s.ex.release else none
  | .runOnExpiry => s.dc.runOn
  | .neighbourSilenceExpiry z => (neighbour? s z).bind (·.silence)
  | .statePeriodExpiry => s.nt.period
  | .sampleCompletion _ _ => s.su.period
  | .callRepeatExpiry n => if role s = .load then (callOfSerial n s).bind (·.timer) else none
  | .callExpiry st n =>
    if role s = .spur then
      (s.cl.calls.find? fun e => e.key == { station := st, serial := n }).bind (·.timer)
    else none
  | .noticeRepeatExpiry k => (latched? s.sn.faults k).bind (·.renotice)
  | .setupWindowExpiry => s.ss.window
  | .writeCycleCompletion => s.ss.cycle.map (·.timer)
  | .powerReset | .resetnAsserted | .pinReset | .entryEyeBlocked _ | .entryEyeClear _ | .exitEyeBlocked
  | .exitEyeClear | .rackFullPress | .rackEmptyPress | .stationOpened | .stationClosed | .tagRead _
  | .estopActive | .estopReleased | .setupButtonPress | .lineReleased | .frameSendStart | .arbitrationLost
  | .selfCheckError | .broadcastSent | .replySlotRead _ _ | .insertionError | .abortMark | .receiveError _
  | .frameIgnored _ | .stopReceived _ | .goReceived _ | .passReceived _ _ _ | .recallReceived _ _ _
  | .stateReceived _ _ | .callReceived _ _ _ | .answerReceived _ _ _ _ | .declineReceived _ _ _
  | .noticeReceived _ _ _ _ _ | .replyReceived _ _ _ | .clear _ _ _ | .askStatus _ _ _ | .askCounts _ _ _
  | .askQueue _ _ _ | .askExpected _ _ _ | .askCalls _ _ _ | .askNeighbour _ _ _ | .askRunning _ _ _
  | .askRestart _ _ _ | .setupEnable _ _ | .setupWrite _ _ _ _ | .setupRead _ _ _ | .lineBusy
  | .askTopicOutsideRange _ _ _ _ => none

/-! ## The expiries that are due -/

/-- The commands of the timers that the node has one of. The sample completed by the time base has the codes its channels
deliver (log entry 4). -/
def singleTimers (s : State) : List Instr :=
  [ .startHoldExpiry, .quietTimerExpiry, .estopReleaseExpiry, .stopRepeatExpiry, .tagReadWindowExpiry, .holdOffExpiry,
    .diverterTravelExpiry, .releaseLimitExpiry, .runOnExpiry, .statePeriodExpiry,
    .sampleCompletion (Config.probeInput s.tb) (Config.currentInput s.tb), .noticeRepeatExpiry .jam,
    .noticeRepeatExpiry .exitStuck, .noticeRepeatExpiry .overfull, .noticeRepeatExpiry .duplicateZone,
    .noticeRepeatExpiry .probe, .setupWindowExpiry, .writeCycleCompletion ]

/-- The commands of a call's timer: the repeat at a LOAD and the expiry at a SPUR. -/
def callTimers (e : CallEntry) : List Instr :=
  [.callRepeatExpiry e.key.serial, .callExpiry e.key.station e.key.serial]

/-- The commands of the timers that entries have: expected entries, neighbours and calls. -/
def entryTimers (s : State) : List Instr :=
  (List.range s.zq.expected.length).map Instr.arrivalWindowExpiry
    ++ s.nt.entries.map (fun n => Instr.neighbourSilenceExpiry n.zone)
    ++ s.cl.calls.flatMap callTimers

/-- The expiries that are due: the commands whose timer runs and is due (R8). None is taken while the filtered
RESETN is active (R161). -/
def dueExpiries (s : State) : List Instr :=
  if s.resetn then [] else (singleTimers s ++ entryTimers s).filter fun c => (timerOf c s).any (·.due s.tb)

/-- A millisecond of TB passes (R8). -/
def tick (s : State) : State := { s with tb := s.tb + 1 }

/-- The time base's step: one of the expiries that are due is taken, and with none due a millisecond passes. Which of
several comes first the spec leaves open (log entry 2). -/
def idle (s : State) : Answer :=
  match dueExpiries s with
  | [] => .next (tick s)
  | [c] => exec c s
  | c :: rest =>
    exec ((c :: rest).getD (Config.firstDue s.tb (rest.length + 1) % (rest.length + 1)) c) s

end Sys2Proof.Machine
end

