-- ==== Sys2Proof/Safety.lean ====
section
/-! DEFINITION. Safety.lean: what a safe state of the node is, and the conditions that the rules promise of every state a
run reaches, block by block. -/

namespace Sys2Proof.Machine

/-! ## When the node takes commands -/

/-- The node takes inputs, frames and expiries: its filtered RESETN is inactive (R161). -/
abbrev Awake (s : State) : Prop := s.resetn = false

/-- The node is awake and has a running configuration. -/
abbrev InUse (s : State) : Prop := Awake s ∧ configured s = true

/-- The node is in use and can receive a frame: it is not waiting for the line to be released (R141, R143). -/
abbrev Hearing (s : State) : Prop := InUse s ∧ s.li.awaitRelease = false

/-- A frame's sender is another node or a panel: its source is an address and not this node's zone number (R142, R149). -/
abbrev FromOther (source : Addr) (s : State) : Prop := source ≠ 0 ∧ ownZone s ≠ some source

/-- The node takes a frame addressed to a target: its own zone number, or the setup address while its setup window runs,
configured or not (R148, R150, R160). -/
abbrev TakenAt (target : Addr) (s : State) : Prop :=
  Awake s ∧ s.li.awaitRelease = false
    ∧ ((configured s = true ∧ ownZone s = some target ∧ 1 ≤ target.toNat ∧ target.toNat ≤ 60)
      ∨ (target = 63 ∧ s.ss.window.isSome = true))

/-! ## Safe movement -/

/-- Nothing moves a rack unless the rules allow it: the exit gate is open only in a zone that has one, while a release is
in progress, unhalted and in service (R3, R10, R14, R18, R55), and the drive runs only unhalted and in service, and in
a WASH zone never with a head that waits at the exit (R59, R61). -/
abbrev SafeMovement (s : State) : Prop :=
  (gatePin s = true →
    role s ≠ .wash ∧ s.ex.exit = .releasing ∧ halted s = false ∧ inService s = true)
  ∧ (drivePin s = true →
    halted s = false ∧ inService s = true ∧ (role s = .wash → headAtExit s = true → s.ex.exit = .releasing))

/-! ## What each block keeps -/

/-- LI's transmit list (R145, R147): at most 8 frames, one STATE and three NOTICE frames, at most one of them being sent,
no attempt count at 8, and a replacement only for a STATE and by a STATE. -/
abbrev TransmitOk (li : LineInterface) : Prop :=
  li.tx.length ≤ 8 ∧ li.tx.countP (hasKind .state) ≤ 1 ∧ li.tx.countP (hasKind .notice) ≤ 3
    ∧ li.tx.countP (·.sending) ≤ 1
    ∧ ∀ e ∈ li.tx, e.attempts < 8
        ∧ (e.replacement.all fun f => f.kind == .state && e.frame.kind == .state) = true

/-- A record's fields lie within their ranges (R21, R22): washes 0 to 3, at most one result for each stage 1 to 4, and
every credit 0 to 65535. -/
abbrev RecordOk (r : RackRecord) : Prop :=
  r.washes ≤ 3 ∧ (r.results.map (·.stage)).Nodup
    ∧ ∀ e ∈ r.results, 1 ≤ e.stage ∧ e.stage ≤ 4 ∧ e.credit ≤ 65535

/-- ZQ's collections (R24, R28, R100): at most 8 records in the queue, at most capacity entries in the expected list, and
every record within its ranges, those of the expected list with no PENDING result. -/
abbrev QueueOk (s : State) : Prop :=
  s.zq.queue.length ≤ 8 ∧ s.zq.expected.length ≤ capacity s
    ∧ (∀ r ∈ s.zq.queue, RecordOk r)
    ∧ ∀ e ∈ s.zq.expected, RecordOk e.record ∧ ∀ x ∈ e.record.results, x.verdict ≠ .pending

/-- The exit's parts agree (R46, R49 to R58): an offer has an outlet and a serial, travel runs in SWITCHING and the
release timer in RELEASING and nowhere else, the gate is open exactly in a RELEASING zone that has one, an offer that is
not withdrawn has its head at the exit, and an exit in SWITCHING or RELEASING has its head at it and is neither halted
nor out of service. -/
abbrev ExitOk (s : State) : Prop :=
  (s.ex.outlet.isSome = (s.ex.exit != .closed)) ∧ (s.ex.serial.isSome = (s.ex.exit != .closed))
    ∧ (s.ex.travel.isSome = (s.ex.exit == .switching)) ∧ (s.ex.release.isSome = (s.ex.exit == .releasing))
    ∧ (s.ex.gate = (s.ex.exit == .releasing && role s != .wash))
    ∧ (s.ex.exit ≠ .closed → configured s = true)
    ∧ (s.ex.exit = .offering → s.ex.withdrawn = false → headAtExit s = true)
    ∧ (s.ex.exit = .switching ∨ s.ex.exit = .releasing →
        headAtExit s = true ∧ halted s = false ∧ inService s = true)

/-- The drive runs exactly when R59 and R61 want it to. -/
abbrev DriveOk (s : State) : Prop := s.dc.drive = .run ↔ driveWanted s = true

/-- The quiet timer runs exactly in a RECOVERING node whose quiet condition holds (R12). -/
abbrev QuietOk (s : State) : Prop := s.sn.quiet.isSome = (s.sn.service == .recovering && quietCondition s)

/-- A node is FAULTED exactly while one of JAM, EXIT_STUCK, OVERFULL and DUPLICATE_ZONE is latched (R14, R16), and each
latched fault has its notice repeat running (R153). -/
abbrev FaultsOk (s : State) : Prop :=
  (serviceFault s.sn.faults = (s.sn.service == .faulted))
    ∧ ∀ k ∈ [FaultKind.jam, .exitStuck, .overfull, .duplicateZone, .probe],
        ((latched? s.sn.faults k).all fun f => f.renotice.isSome) = true

/-- Every value of a set of items lies within its item's range (R157). -/
abbrev ItemsOk (c : Items) : Prop :=
  ∀ i ∈ itemList, ((itemValue c i).all fun v => itemInRange i v.toNat) = true

/-- The stored values, the running values and the value being written lie within their items' ranges (R157, R159), and the
node is configured exactly when its running configuration passes the validity check (R9, R161). -/
abbrev StoreOk (s : State) : Prop :=
  ItemsOk s.ss.store ∧ ItemsOk s.ss.running
    ∧ (s.ss.cycle.all fun w => w.value.all fun v => itemInRange w.item v.toNat) = true
    ∧ configured s = (validityCheck s.ss.running).isNone

/-- Every arrival window runs exactly while the node is not halted (R18, R19, R75). -/
abbrev WindowsOk (s : State) : Prop := ∀ e ∈ s.zq.expected, e.window.isSome = !halted s

/-- The call list (R122): no more than 24 entries, no key twice, and no more than 3 of one station. -/
abbrev CallsOk (s : State) : Prop :=
  s.cl.calls.length ≤ 24 ∧ (s.cl.calls.map (·.key)).Nodup
    ∧ ∀ e ∈ s.cl.calls, s.cl.calls.countP (fun x => x.key.station == e.key.station) ≤ 3

/-- A LOAD has issued the calls it needs and withdrawn those it does not (R128, R130, R131). -/
abbrev NeedOk (s : State) : Prop :=
  role s = .load → configured s = true →
    (s.cl.stationOpen = true → targetEmpties s ≤ stationSum s)
      ∧ (targetEmpties s < stationSum s → s.cl.calls = [])
      ∧ (s.cl.stationOpen = false → s.cl.calls = [])

/-- The stop set holds addresses 1 to 62, none of them twice (R151). -/
abbrev StopSetOk (s : State) : Prop :=
  s.sn.stopSet.Nodup ∧ ∀ a ∈ s.sn.stopSet, 1 ≤ a.toNat ∧ a.toNat ≤ 62

/-- SL holds a judgement exactly while a SORT zone's head is at the exit (R109). -/
abbrev JudgementOk (s : State) : Prop :=
  s.sl.judgement.isSome = (configured s && role s == .sort && headAtExit s)

/-- The STATE that NT placed last, or found no place for, carried the body as it stands (R67). -/
abbrev AnnouncedOk (s : State) : Prop := configured s = true → s.nt.announced = some (ownBody s)

/-- An UNCONFIGURED node (R10, R150, R161): no running configuration, no record, no call, no neighbour, no sample, no
fault, the exit CLOSED, the drive OFF, and only REPLY frames to send. -/
abbrev UnconfiguredOk (s : State) : Prop :=
  s.sn.service = .unconfigured →
    s.ss.running = Items.unset ∧ s.zq.queue = [] ∧ s.zq.expected = [] ∧ s.cl.calls = [] ∧ s.nt.entries = []
      ∧ s.nt.period = none ∧ s.su.period = none ∧ s.sn.quiet = none ∧ s.sn.faults = Faults.clear
      ∧ s.ex.exit = .closed ∧ s.ex.gate = false ∧ s.dc.drive = .off ∧ s.dc.runOn = none
      ∧ ∀ e ∈ s.li.tx, e.frame.kind = .reply

/-- What the tests at the end of an event leave (R12, R48, R59, R67, R109, R128): the judgement, the quiet timer, the
station's calls, the offer, the drive and the announced STATE are all as the state asks. -/
abbrev Settled (s : State) : Prop :=
  JudgementOk s ∧ QuietOk s ∧ NeedOk s ∧ offerReady s = false ∧ DriveOk s ∧ AnnouncedOk s

/-! ## The commands of the time base -/

/-- The commands that are the expiry of a timer. -/
def isExpiry : Instr → Bool
  | .startHoldExpiry | .quietTimerExpiry | .estopReleaseExpiry | .stopRepeatExpiry | .tagReadWindowExpiry
  | .arrivalWindowExpiry _ | .holdOffExpiry | .diverterTravelExpiry | .releaseLimitExpiry | .runOnExpiry
  | .neighbourSilenceExpiry _ | .statePeriodExpiry | .sampleCompletion _ _ | .callRepeatExpiry _ | .callExpiry _ _
  | .noticeRepeatExpiry _ | .setupWindowExpiry | .writeCycleCompletion => true
  | .powerReset | .resetnAsserted | .pinReset | .entryEyeBlocked _ | .entryEyeClear _ | .exitEyeBlocked
  | .exitEyeClear | .rackFullPress | .rackEmptyPress | .stationOpened | .stationClosed | .tagRead _
  | .estopActive | .estopReleased | .setupButtonPress | .lineReleased | .frameSendStart | .arbitrationLost
  | .selfCheckError | .broadcastSent | .replySlotRead _ _ | .insertionError | .abortMark | .receiveError _
  | .frameIgnored _ | .stopReceived _ | .goReceived _ | .passReceived _ _ _ | .recallReceived _ _ _
  | .stateReceived _ _ | .callReceived _ _ _ | .answerReceived _ _ _ _ | .declineReceived _ _ _
  | .noticeReceived _ _ _ _ _ | .replyReceived _ _ _ | .clear _ _ _ | .askStatus _ _ _ | .askCounts _ _ _
  | .askQueue _ _ _ | .askExpected _ _ _ | .askCalls _ _ _ | .askNeighbour _ _ _ | .askRunning _ _ _
  | .askRestart _ _ _ | .setupEnable _ _ | .setupWrite _ _ _ _ | .setupRead _ _ _ | .lineBusy
  | .askTopicOutsideRange _ _ _ _ => false

/-! ## Received frames by their commands -/

/-- The frame a command of reception brings: its kind, source, target and body as R142 and R144 lay them out. -/
def receivedFrame : Instr → Option Frame
  | .stopReceived source => some { kind := .stop, source := source, target := 0, body := [] }
  | .goReceived source => some { kind := .go, source := source, target := 0, body := [] }
  | .passReceived source target body => some { kind := .pass, source := source, target := target, body := body }
  | .recallReceived source target n => some { kind := .recall, source := source, target := target, body := [n] }
  | .answerReceived source station n tag =>
    some { kind := .answer, source := source, target := 0, body := [station, n, highOctet tag, lowOctet tag] }
  | .callReceived source station n => some { kind := .call, source := source, target := 0, body := [station, n] }
  | .declineReceived source station n =>
    some { kind := .decline, source := source, target := 0, body := [station, n] }
  | .stateReceived source b =>
    some { kind := .state, source := source, target := 0,
           body := [b.service, b.flags, b.free, b.queue, b.expected, b.waited] }
  | .noticeReceived source kind detail tag value =>
    some { kind := .notice, source := source, target := 0,
           body := [kind, detail, highOctet tag, lowOctet tag, highOctet value, lowOctet value] }
  | .replyReceived source target body => some { kind := .reply, source := source, target := target, body := body }
  | .askStatus source target n => some { kind := .ask, source := source, target := target, body := [0, n] }
  | .askCounts source target n => some { kind := .ask, source := source, target := target, body := [1, n] }
  | .askQueue source target n => some { kind := .ask, source := source, target := target, body := [2, n] }
  | .askExpected source target n => some { kind := .ask, source := source, target := target, body := [3, n] }
  | .askCalls source target n => some { kind := .ask, source := source, target := target, body := [4, n] }
  | .askNeighbour source target n => some { kind := .ask, source := source, target := target, body := [5, n] }
  | .askRunning source target n => some { kind := .ask, source := source, target := target, body := [6, n] }
  | .askRestart source target n => some { kind := .ask, source := source, target := target, body := [7, n] }
  | .askTopicOutsideRange source target topic n =>
    some { kind := .ask, source := source, target := target, body := [topic, n] }
  | .clear source target code => some { kind := .clear, source := source, target := target, body := [code] }
  | .setupEnable source target => some { kind := .setupEnable, source := source, target := target, body := [] }
  | .setupWrite source target item value =>
    some { kind := .setupWrite, source := source, target := target,
           body := [item, highOctet value, lowOctet value] }
  | .setupRead source target item => some { kind := .setupRead, source := source, target := target, body := [item] }
  | .frameIgnored f => some f
  | .powerReset | .resetnAsserted | .pinReset | .entryEyeBlocked _ | .entryEyeClear _ | .exitEyeBlocked
  | .exitEyeClear | .rackFullPress | .rackEmptyPress | .stationOpened | .stationClosed | .tagRead _
  | .estopActive | .estopReleased | .setupButtonPress | .startHoldExpiry | .quietTimerExpiry
  | .estopReleaseExpiry | .stopRepeatExpiry | .tagReadWindowExpiry | .arrivalWindowExpiry _ | .holdOffExpiry
  | .diverterTravelExpiry | .releaseLimitExpiry | .runOnExpiry | .neighbourSilenceExpiry _ | .statePeriodExpiry
  | .sampleCompletion _ _ | .callRepeatExpiry _ | .callExpiry _ _ | .noticeRepeatExpiry _ | .setupWindowExpiry
  | .writeCycleCompletion | .lineReleased | .frameSendStart | .arbitrationLost | .selfCheckError
  | .broadcastSent | .replySlotRead _ _ | .insertionError | .abortMark | .receiveError _ | .lineBusy => none

end Sys2Proof.Machine
end

