-- ==== Sys2Proof/Certificates/Slice0/Obligations.lean ====
section
/-! DEFINITION. Certificates/Slice0/Obligations.lean: what the provers are to prove of the model. In every statement a
command's next state is what `exec` answers; `settle` stands for the tests that follow an event, which statements of their
own describe. -/

open Sys2Proof Sys2Proof.Machine

/-! ## Steps, time and resets -/

/-- A step takes the command at the front of the queue and is `exec` of it on the state with the queue's rest. -/
def Obligations.StepTakesTheFrontCommand : Prop :=
  ∀ (c : Instr) (rest : List Instr) (s : State),
    step { s with pending := c :: rest } = exec c { s with pending := rest }

/-- The model's choice (log entry 2), with R8's count: on an empty queue the time base takes one of the expiries that are
due, and with none due a millisecond of TB passes and nothing else changes. The expiries that are due are those of an awake
node whose timer runs and has reached its duration, a sample completion with the codes of the free values (log entry 4). -/
def Obligations.EmptyQueueGivesTheTimeBaseItsStep : Prop :=
  ∀ s : State,
    (∀ c, c ∈ dueExpiries s ↔ Awake s ∧ (∃ m, timerOf c s = some m ∧ m.duration ≤ (s.tb - m.start).toNat)
      ∧ ∀ probe current, c = .sampleCompletion probe current →
          probe = Config.probeInput s.tb ∧ current = Config.currentInput s.tb)
    ∧ (s.pending = [] → dueExpiries s = [] → step s = .next { s with tb := s.tb + 1 })
    ∧ (s.pending = [] → dueExpiries s ≠ [] → ∃ c ∈ dueExpiries s, step s = exec c s)

/-- The model's choice for an expiry commanded out of time (log entry 1): the expiry of a timer that is not running has
no effect, and the expiry of a timer that runs is taken at the later of now and the moment R8 gives. -/
def Obligations.ExpiryIsTakenAtItsMoment : Prop :=
  ∀ (c : Instr) (s : State), Awake s → isExpiry c = true →
    (timerOf c s = none → exec c s = .next s)
      ∧ ∀ t, timerOf c s = some t →
          exec c s = exec c (if t.duration ≤ (s.tb - t.start).toNat then s
            else { s with tb := t.start + BitVec.ofNat 32 t.duration })

/-- A POWER or a PIN reset gives every block the values its chapter lists, keeps the store, and records the cause. The
validity check of the items as loaded decides between RECOVERING, with those items running and a STATE placed at once,
and UNCONFIGURED, with no running configuration, the reason kept and nothing to send. With a factory store a POWER reset
gives the reset state, whatever the node held. The commands that wait are kept: they are no part of the node. (The queue
of commands is the model's own field, log entry 11.) -/
def Obligations.ResetGivesEveryBlockItsValues : Prop :=
  (∀ s : State, s.ss.store = Items.unset →
    exec .powerReset s = .next { State.reset with pending := s.pending })
  ∧ ∀ (c : Instr) (cause : ResetCause) (s : State),
    (c = .powerReset ∧ cause = .power) ∨ (c = .pinReset ∧ cause = .pin) →
    ∃ t, exec c s = .next t
      ∧ t.tb = (if cause = .power then 0 else s.tb) ∧ t.resetn = false ∧ t.pending = s.pending
      -- LI
      ∧ t.li.line = .busy ∧ t.li.recessiveRun = 0 ∧ t.li.receiveErrors = 0 ∧ t.li.lineDrops = 0
      ∧ t.li.slot = .nothing ∧ t.li.aborting = false
      -- ZQ
      ∧ t.zq = { queue := [], expected := [], tagWindow := none, eye1 := false, eye2 := false, eyeX := false }
      -- EX
      ∧ t.ex = { exit := .closed, outlet := none, serial := none, lastSerial := 0,
                 position := if (itemValue t.ss.running .outlet1).isSome
                   then BitVec.ofNat 2 (itemNat t.ss.running .position1) else 0,
                 settled := false, withdrawn := false, holdOff := none, holdOffZone := none, travel := none,
                 release := none, gate := false }
      -- DC, SU, MA, SL, CL
      ∧ t.dc = { drive := .off, runOn := none, skip := 0, high := 0 }
      ∧ t.su = { period := none, lastProbe := none, lastTemperature := none, lastCurrentCode := none,
                 lastCurrent := none, faultCount := 0 }
      ∧ t.ma = { turn := .one, guard := 0 } ∧ t.sl = { judgement := none }
      ∧ t.cl = { calls := [], lastSerial := 0, stationOpen := false, offerCall := none }
      -- NT
      ∧ (∀ n ∈ t.nt.entries, n.last = none ∧ n.lastHeard = none ∧ n.presence = .absent ∧ n.silence = none)
      -- SN
      ∧ t.sn.startHold = some { start := t.tb, duration := 2000 } ∧ t.sn.quiet = none ∧ t.sn.estop = false
      ∧ t.sn.localTerm = false ∧ t.sn.stopSet = [] ∧ t.sn.stopRepeat = none ∧ t.sn.estopRelease = none
      ∧ t.sn.faults = { jam := none, exitStuck := none, overfull := none, duplicateZone := none, probe := none }
      ∧ t.sn.counts = { released := 0, strays := 0, lost := 0, removed := 0, surplus := 0, answered := 0,
                        rewashes := 0, rejects := 0 }
      ∧ t.sn.resetCause = cause
      ∧ t.sn.resets = (if cause = .power then 0 else if s.sn.resets < 255 then s.sn.resets + 1 else 255)
      -- SS
      ∧ t.ss.store = s.ss.store ∧ t.ss.writeEnable = false ∧ t.ss.cycle = none ∧ t.ss.window = none
      ∧ (validityCheck (loadedItems s.ss.store) = none →
          t.sn.service = .recovering ∧ t.sn.reason = none ∧ t.ss.running = loadedItems s.ss.store
            ∧ t.li.tx.map (·.frame) = [ownFrame t .state 0 (stateOctets (ownBody t))]
            ∧ t.nt.period = some { start := t.tb, duration := 500 }
            ∧ (t.nt.entries.map (·.zone)).Nodup
            ∧ ∀ z, z ∈ t.nt.entries.map (·.zone) ↔
                ∃ i ∈ [Item.upstream1, .upstream2, .outlet1, .outlet2, .outlet3], itemZone t.ss.running i = some z)
      ∧ ∀ r, validityCheck (loadedItems s.ss.store) = some r →
          t.sn.service = .unconfigured ∧ t.sn.reason = some r ∧ (∀ i, itemValue t.ss.running i = none)
            ∧ t.li.tx = [] ∧ t.nt.entries = [] ∧ t.nt.period = none

/-- The store is loaded with an unset item's default in its place, and the check passes exactly when the common items and
the role's items are set, a WASH zone's thresholds are in order, a SORT zone's required stage set is not empty and a LOAD
zone's target empties lie within its capacity. A failure is the first case that fails, in the table's order, with an item of
that case: 1, then 2 or 3, then an unset common item, then an unset item of the role, then 21, 27 or 28, then 29, then 32.
Which item of a case is reported, where several fail, the spec leaves open, and which threshold stands for which of 21, 27 and
28 is the model's reading (log entry 3). -/
def Obligations.ValidityCheckFollowsItsCases : Prop :=
  let required : Role → List Item := fun r => match r with
    | .feed => [.outlet1]
    | .merge => [.upstream1, .upstream2, .outlet1, .mergeMode]
    | .load => [.outlet1, .station, .targetEmpties]
    | .wash => [.outlet1, .tLo, .tHi, .stage, .requiredCredit, .tMin, .tFull]
    | .sort => [.outlet1, .outlet2, .outlet3, .requiredStages]
    | .unload => [.outlet1, .cleanRequired]
    | .spur => [.outlet1, .outlet2, .station]
  (∀ (store : Items) (i : Item), itemValue (loadedItems store) i = (itemValue store i).or (itemDefault i))
  ∧ ∀ c : Items,
    let allSet := fun (is : List Item) => ∀ i ∈ is, (itemValue c i).isSome = true
    let oneUnset := fun (is : List Item) (r : SetupFault) => ∃ i ∈ is, itemValue c i = none ∧ r.item = itemNumber i
    let n := fun i => itemNat c i
    let inOrder := n .tLo < n .tHi ∧ n .tLo ≤ n .tMin ∧ n .tMin < n .tFull ∧ n .tFull ≤ n .tHi
    let items := allSet [.zoneNumber, .role, .side, .capacity, .iSpan, .iJam] ∧ allSet (required (runningRole c))
    (validityCheck c = none ↔ items ∧ (runningRole c = .wash → inOrder)
        ∧ (runningRole c = .sort → n .requiredStages ≠ 0)
        ∧ (runningRole c = .load → n .targetEmpties ≤ n .capacity))
    ∧ ∀ r, validityCheck c = some r →
      (itemValue c .zoneNumber = none → r = { row := 1, item := 1 })
      ∧ (itemValue c .zoneNumber ≠ none → ¬ allSet [.role, .side] →
          r.row = 2 ∧ (r.item = 2 ∧ itemValue c .role = none ∨ r.item = 3 ∧ itemValue c .side = none))
      ∧ (allSet [.zoneNumber, .role, .side] → ¬ allSet [.capacity, .iSpan, .iJam] →
          r.row = 3 ∧ oneUnset [.capacity, .iSpan, .iJam] r)
      ∧ (allSet [.zoneNumber, .role, .side, .capacity, .iSpan, .iJam] → ¬ allSet (required (runningRole c)) →
          r.row = 4 ∧ oneUnset (required (runningRole c)) r)
      ∧ (items → runningRole c = .wash → r.row = 5
          ∧ (n .tHi ≤ n .tLo → r.item = 21)
          ∧ (n .tLo < n .tHi → r.item = 27 ∧ (n .tMin < n .tLo ∨ n .tFull ≤ n .tMin)
              ∨ r.item = 28 ∧ (n .tHi < n .tFull ∨ n .tFull ≤ n .tMin)))
      ∧ (items → runningRole c = .sort → r = { row := 6, item := 29 })
      ∧ (items → runningRole c = .load → r = { row := 7, item := 32 })

/-- RESETN made active holds the node: from then on the outputs are inactive, nothing is sent, and no command has any
effect but a reset. (That the node's state stands still meanwhile is the model's reading, log entry 19.) -/
def Obligations.ResetnHoldsTheNode : Prop :=
  (∀ s : State, ∃ t, exec .resetnAsserted s = .next t
    ∧ t.resetn = true ∧ drivePin t = false ∧ gatePin t = false ∧ sentBits t = [] ∧ t.li.slot = .nothing
    ∧ t = { s with resetn := true, li := t.li }
    ∧ t.li = { s.li with tx := t.li.tx, slot := .nothing, aborting := false } ∧ t.li.tx.map (·.frame) = s.li.tx.map (·.frame))
  ∧ ∀ (c : Instr) (s : State), s.resetn = true → c ≠ .powerReset → c ≠ .pinReset → c ≠ .resetnAsserted →
      exec c s = .next s

/-! ## Field pins -/

/-- A rack seen at an inlet of a node in use whose queue holds fewer than 8 records takes the oldest expected entry from
the inlet's upstream zone, and with no such entry it is a stray, counted and noticed. In either case the record joins at
the tail, in a WASH zone with required credit with a fresh stage entry. (The order of the tests that `settle` stands for
is the model's choice, log entry 6.) -/
def Obligations.EntryEyeBlockedTakesTheRack : Prop :=
  ∀ (inlet : Inlet) (s : State), InUse s → inlet = .one ∨ role s = .merge → s.zq.queue.length < 8 →
    let eyes := setEntryEye inlet true s
    let stage := itemNat s.ss.running .stage
    let joined := fun (r : RackRecord) =>
      if role s = .wash ∧ itemNat s.ss.running .requiredCredit ≠ 0 then
        { r with results := r.results.filter (fun e => e.stage != stage)
                   ++ [{ stage := stage, credit := 0, verdict := .pending, faultSeen := false }] }
      else r
    let window := some { start := s.tb, duration := 1000 }
    (∀ z before e after, inletZone s.ss.running inlet = some z → s.zq.expected = before ++ e :: after →
      e.upstream = z → (∀ x ∈ before, x.upstream ≠ z) →
      exec (.entryEyeBlocked inlet) s = .next (settle
        { eyes with zq := { eyes.zq with queue := s.zq.queue ++ [joined e.record], expected := before ++ after,
                                         tagWindow := window },
                    dc := { s.dc with runOn := none }, sn := { s.sn with quiet := none } }))
    ∧ ((∀ z, inletZone s.ss.running inlet = some z → ∀ x ∈ s.zq.expected, x.upstream ≠ z) →
      exec (.entryEyeBlocked inlet) s = .next (settle (sendNotice .stray
        (((inletZone s.ss.running inlet).map (·.setWidth 8)).getD 0) 0 (if inlet = .one then 1 else 2)
        { eyes with
          zq := { eyes.zq with
            queue := s.zq.queue ++ [joined
              { tag := none, content := if role s = .load ∨ runningSide s.ss.running = .return then .empty else .unknown,
                origin := none, washes := 0, bound := none, results := [] }],
            tagWindow := window },
          dc := { s.dc with runOn := none },
          sn := { s.sn with quiet := none,
                            counts := { s.sn.counts with strays := s.sn.counts.strays + 1 } } })))

/-- A rack seen at an inlet while the queue holds 8 records makes no record, and the oldest entry from that inlet's upstream
zone is lost. OVERFULL is latched, and a node in service becomes FAULTED; while it is latched already, a further rack changes
nothing of the fault and of the service state. -/
def Obligations.RackAtAFullQueueIsOverfull : Prop :=
  ∀ (inlet : Inlet) (s : State), InUse s → inlet = .one ∨ role s = .merge → 8 ≤ s.zq.queue.length →
    ∃ t, exec (.entryEyeBlocked inlet) s = .next t
      ∧ (s.sn.faults.overfull = none →
          t.sn.faults = { s.sn.faults with overfull := some {
            detail := ((inletZone s.ss.running inlet).map (·.setWidth 8)).getD 0, tag := 0,
            value := if inlet = .one then 1 else 2,
            renotice := some { start := s.tb, duration := 10000 } } }
          ∧ (inService s = true →
              t.sn.service = .faulted ∧ t.dc.drive = .off ∧ t.dc.runOn = none ∧ t.sn.quiet = none)
          ∧ (inService s = false → t.sn.service = s.sn.service))
      ∧ (s.sn.faults.overfull ≠ none → t.sn.faults = s.sn.faults ∧ t.sn.service = s.sn.service)
      ∧ t.zq.queue.length = s.zq.queue.length ∧ t.sn.counts.strays = s.sn.counts.strays
      ∧ (∀ z before e after, inletZone s.ss.running inlet = some z → s.zq.expected = before ++ e :: after →
          e.upstream = z → (∀ x ∈ before, x.upstream ≠ z) →
          t.zq.expected = before ++ after ∧ t.sn.counts.lost = s.sn.counts.lost + 1)
      ∧ ((∀ z, inletZone s.ss.running inlet = some z → ∀ x ∈ s.zq.expected, x.upstream ≠ z) →
          t.zq.expected = s.zq.expected ∧ t.sn.counts.lost = s.sn.counts.lost)

/-- The eye events that match no entry. An entry eye that clears, and an exit eye blocked with a record in the queue, change
the eye's level and no more, and the tests of an event follow. At an exit eye blocked with the queue empty a stray joins as
head and tail at once, in a WASH zone with required credit with a stage entry, counted and noticed, before those tests. (That
an UNCONFIGURED node keeps the level of an eye is the model's reading, log entry 18; the order of the tests that `settle`
stands for is its choice, log entry 6.) -/
def Obligations.OtherEyeEvents : Prop :=
  ∀ s : State, Awake s →
    let eyes := { s with zq := { s.zq with eyeX := true } }
    let stray : RackRecord :=
      { tag := none, content := if role s = .load ∨ runningSide s.ss.running = .return then .empty else .unknown,
        origin := none, washes := 0, bound := none,
        results := if role s = .wash ∧ itemNat s.ss.running .requiredCredit ≠ 0 then
            [{ stage := itemNat s.ss.running .stage, credit := 0, verdict := .pending, faultSeen := false }]
          else [] }
    (∀ inlet, exec (.entryEyeClear inlet) s = .next (settle (setEntryEye inlet false s)))
    ∧ (s.zq.queue ≠ [] → exec .exitEyeBlocked s = .next (settle eyes))
    ∧ (s.zq.queue = [] → configured s = true → exec .exitEyeBlocked s = .next (settle (sendNotice .stray 0 0 0
        { eyes with
          zq := { eyes.zq with queue := [stray], tagWindow := some { start := s.tb, duration := 1000 } },
          dc := { s.dc with runOn := none },
          sn := { s.sn with quiet := none,
                            counts := { s.sn.counts with strays := s.sn.counts.strays + 1 } } })))
    ∧ (configured s = false → exec .exitEyeBlocked s = .next eyes)

/-- An exit eye that clears, by the cases of R39: nothing in an UNCONFIGURED node or with the queue empty; in RELEASING
the head leaves and is counted as released; in any other exit state the head leaves and is counted as removed, an offer
in OFFERING is marked withdrawn, and one in SWITCHING is undone. Run-on starts when the queue and the expected list become
empty together in service and not halted. (That an UNCONFIGURED node keeps the level of an eye is
the model's reading, log entry 18.) (The order of the tests that `settle` stands for is the model's choice, log entry
6.) -/
def Obligations.ExitEyeClearTakesTheHead : Prop :=
  ∀ s : State, Awake s →
    (configured s = false ∨ s.zq.queue = [] →
      exec .exitEyeClear s = .next (settle { s with zq := { s.zq with eyeX := false } }))
    ∧ ∀ head rest, configured s = true → s.zq.queue = head :: rest →
      ∃ t, exec .exitEyeClear s = .next t
        ∧ t.zq.queue = rest ∧ t.zq.eyeX = false ∧ t.zq.expected = s.zq.expected ∧ t.sl.judgement = none
        ∧ t.zq.tagWindow = (if rest = [] then none else s.zq.tagWindow)
        ∧ t.tb = s.tb ∧ t.su = s.su ∧ t.ma = s.ma ∧ t.ss = s.ss ∧ t.pending = s.pending
        ∧ t.nt.entries = s.nt.entries
        ∧ t.dc.runOn = (if rest = [] ∧ s.zq.expected = [] ∧ inService s = true ∧ halted s = false
              ∧ itemNat s.ss.running .runOn ≠ 0 then
            some { start := s.tb, duration := 1000 * itemNat s.ss.running .runOn } else s.dc.runOn)
        ∧ (s.ex.exit = .releasing →
            t.ex = { s.ex with exit := .closed, outlet := none, serial := none, travel := none, release := none,
                               gate := false }
              ∧ t.sn.counts = { s.sn.counts with released := s.sn.counts.released + 1 })
        ∧ (s.ex.exit ≠ .releasing → t.sn.counts = { s.sn.counts with removed := s.sn.counts.removed + 1 })
        ∧ (s.ex.exit = .closed → t.ex = s.ex)
        ∧ (s.ex.exit = .offering → t.ex = { s.ex with withdrawn := true })
        ∧ (s.ex.exit = .switching →
            t.ex = { s.ex with exit := .closed, outlet := none, serial := none, travel := none, release := none,
                               gate := false })

/-- A press of the button. Rack full, at a LOAD: a head that is not SOILED becomes a SOILED head of this station, bound
to no call, with its tag, washes and results kept; otherwise the press is ignored. Rack empty, at an UNLOAD, by the
first case that applies: ignored with no head at the exit or an EMPTY head, refused with its notice when clean-required
is set and the head is not CLEAN, and otherwise the head is made empty with its tag kept. In any other role a press has
no effect. (That a press goes by its role's table in every exit state is the model's choice, at an UNLOAD log entry 24 and at a
LOAD log entry 26; so is the order of the tests that `settle` stands for, log entry 6.) -/
def Obligations.ButtonsChangeTheHead : Prop :=
  ∀ s : State, InUse s →
    (role s ≠ .load → exec .rackFullPress s = .next s)
    ∧ (role s ≠ .unload → exec .rackEmptyPress s = .next s)
    ∧ (role s = .load →
        (s.zq.queue = [] → exec .rackFullPress s = .next (settle s))
        ∧ ∀ head rest, s.zq.queue = head :: rest →
          (head.content = .soiled → exec .rackFullPress s = .next (settle s))
          ∧ (head.content ≠ .soiled →
              exec .rackFullPress s = .next (settle
                { s with zq := { s.zq with queue :=
                    { head with content := .soiled, origin := runningStation s.ss.running, bound := none } :: rest } })))
    ∧ (role s = .unload →
        (headAtExit s = false → exec .rackEmptyPress s = .next s)
        ∧ ∀ head rest, s.zq.queue = head :: rest → s.zq.eyeX = true →
          (head.content = .empty → exec .rackEmptyPress s = .next (settle s))
          ∧ (head.content ≠ .empty → itemNat s.ss.running .cleanRequired ≠ 0 → head.content ≠ .clean →
              exec .rackEmptyPress s = .next (settle (sendNotice .unloadRefused 0 ((head.tag.getD 0).setWidth 16)
                (match head.content with | .soiled => 1 | .reject => 3 | _ => 4) s)))
          ∧ (head.content ≠ .empty → itemNat s.ss.running .cleanRequired = 0 ∨ head.content = .clean →
              exec .rackEmptyPress s = .next (settle
                { s with zq := { s.zq with queue :=
                    { tag := head.tag, content := .empty, origin := none, washes := 0, bound := none, results := [] }
                      :: rest } })))

/-- OPEN at a LOAD: when the station opens, calls are issued until the need is met, each a new entry at the tail of the list
with a CALL, and with the first serial after the last one that no outstanding call has; an excess of calls is withdrawn,
newest first, each with a DECLINE. When it closes, every call is withdrawn with a DECLINE, oldest first, and none is left. The
frames are placed while the transmit list has room. In another role OPEN has no effect. -/
def Obligations.OpenSwitchIssuesAndWithdrawsCalls : Prop :=
  ∀ s : State, InUse s →
    let call := fun (k : FrameKind) (e : CallEntry) => freshEntry (ownFrame s k 0 [e.key.station.setWidth 8, e.key.serial])
    let kept := s.cl.calls.length - (stationSum s - targetEmpties s)
    (role s ≠ .load → exec .stationOpened s = .next s ∧ exec .stationClosed s = .next s)
    ∧ (role s = .load →
        (∃ t, exec .stationOpened s = .next t ∧ t.cl.stationOpen = true ∧ targetEmpties t ≤ stationSum t
          ∧ (stationSum s ≤ targetEmpties s → ∃ new, t.cl.calls = s.cl.calls ++ new
              ∧ s.cl.calls.length + new.length + (stationSum s - s.cl.calls.length) = targetEmpties s
              ∧ (∀ e ∈ new, some e.key.station = (runningStation s.ss.running).or (some 0)
                  ∧ e.lastHeard = s.tb ∧ e.timer = some { start := s.tb, duration := 20000 })
              ∧ (∀ k e, new[k]? = some e →
                  let held := s.cl.calls ++ new.take k
                  let last := ((new.take k).getLast?.map (·.key.serial)).getD s.cl.lastSerial
                  held.length < 256 → ∃ d, 1 ≤ d ∧ e.key.serial = last + BitVec.ofNat 8 d
                    ∧ (∀ x ∈ held, x.key.serial ≠ e.key.serial)
                    ∧ ∀ j, 1 ≤ j → j < d → ∃ x ∈ held, x.key.serial = last + BitVec.ofNat 8 j)
              ∧ t.cl.lastSerial = (new.getLast?.map (·.key.serial)).getD s.cl.lastSerial
              ∧ (s.li.tx.length + new.length ≤ 8 → (new.map (call .call)).Sublist t.li.tx))
          ∧ (targetEmpties s ≤ stationSum s → t.cl.calls = s.cl.calls.take kept
              ∧ (s.li.tx.length + (s.cl.calls.length - kept) ≤ 8 →
                  ((s.cl.calls.drop kept).reverse.map (call .decline)).Sublist t.li.tx))
          ∧ t.zq.expected = s.zq.expected ∧ t.ss = s.ss ∧ t.su = s.su ∧ t.ma = s.ma ∧ t.pending = s.pending)
        ∧ (∃ t, exec .stationClosed s = .next t ∧ t.cl.stationOpen = false ∧ t.cl.calls = []
          ∧ t.cl.lastSerial = s.cl.lastSerial
          ∧ (s.li.tx.length + s.cl.calls.length ≤ 8 → (s.cl.calls.map (call .decline)).Sublist t.li.tx)
          ∧ t.zq.expected = s.zq.expected ∧ t.ss = s.ss ∧ t.su = s.su ∧ t.ma = s.ma ∧ t.pending = s.pending))

/-- A tag read: discarded by a node without a reader, for a value that is no tag or with no tag-read window running, and
otherwise applied to the tail record, with TAG_CHANGED when it replaces a different tag. -/
def Obligations.TagReadTagsTheTail : Prop :=
  ∀ (v : Word16) (s : State), InUse s →
    (itemNat s.ss.running .tagReader ≠ 1 ∨ v = 0 ∨ 4095 < v.toNat ∨ s.zq.tagWindow = none ∨ s.zq.queue = [] →
      exec (.tagRead v) s = .next s)
    ∧ ∀ rest tail, itemNat s.ss.running .tagReader = 1 → 1 ≤ v.toNat → v.toNat ≤ 4095 → s.zq.tagWindow ≠ none →
      s.zq.queue = rest ++ [tail] →
      let named := { s with zq := { s.zq with queue := rest ++ [{ tail with tag := some (v.setWidth 12) }] } }
      (tail.tag = none ∨ tail.tag = some (v.setWidth 12) → exec (.tagRead v) s = .next named)
        ∧ ∀ old, tail.tag = some old → old ≠ v.setWidth 12 →
            exec (.tagRead v) s = .next (sendNotice .tagChanged 0 v (old.setWidth 16) named)

/-- The e-stop input: active, it sets the local term, starts the STOP repeat, cancels a release that runs and places a
STOP; released, it cancels the repeat and starts the 1 s release, with the term still true; at the end of the release the
term becomes false and one GO is placed; at the repeat another STOP is placed. A release of an input that is not active has
no effect, which is the model's choice (log entry 9); that an UNCONFIGURED node keeps the local term and its timers is the
model's reading (log entry 18). -/
def Obligations.EstopStopsAndReleasesTheLine : Prop :=
  ∀ s : State, Awake s →
    (∃ t, exec .estopActive s = .next t ∧ halted t = true ∧ t.sn.estop = true ∧ t.sn.localTerm = true
      ∧ t.sn.stopRepeat = some { start := s.tb, duration := 1000 } ∧ t.sn.estopRelease = none
      ∧ t.sn.stopSet = s.sn.stopSet ∧ t.sn.startHold = s.sn.startHold ∧ t.sn.service = s.sn.service
      ∧ (configured s = true → s.li.tx.length < 8 →
          ∃ e ∈ t.li.tx, e.frame = ownFrame s .stop 0 []))
    ∧ (s.sn.estop = true → exec .estopReleased s = .next
        { s with sn := { s.sn with estop := false, stopRepeat := none,
                                   estopRelease := some { start := s.tb, duration := 1000 } } })
    ∧ (s.sn.estop = false → exec .estopReleased s = .next s)
    ∧ (∀ m, s.sn.estopRelease = some m → m.due s.tb = true →
        ∃ t, exec .estopReleaseExpiry s = .next t ∧ t.sn.localTerm = false ∧ t.sn.estopRelease = none
          ∧ t.sn.stopSet = s.sn.stopSet ∧ t.sn.startHold = s.sn.startHold ∧ t.sn.service = s.sn.service
          ∧ (configured s = true → s.li.tx.length < 8 → ∃ e ∈ t.li.tx, e.frame = ownFrame s .go 0 []))
    ∧ (∀ m, s.sn.stopRepeat = some m → m.due s.tb = true →
        exec .stopRepeatExpiry s = .next
          { sendFrame (ownFrame s .stop 0 []) s with
            sn := { s.sn with stopRepeat := some { start := s.tb, duration := 1000 } } })

/-! ## Expiries of timers -/

/-- The setup button starts or restarts the setup window at its full 120 s; at its expiry the window no longer runs, and
the tag-read window ends in the same way. At the end of the hold-off and of run-on the timer no longer runs, the
hold-off names no zone, and the tests of an event follow. Nothing else changes. (The order of the tests that `settle`
stands for is the model's choice, log entry 6.) -/
def Obligations.PlainTimersEnd : Prop :=
  ∀ s : State, Awake s →
    (exec .setupButtonPress s = .next
      { s with ss := { s.ss with window := some { start := s.tb, duration := 120000 } } })
    ∧ (∀ m, s.ss.window = some m → m.due s.tb = true →
        exec .setupWindowExpiry s = .next { s with ss := { s.ss with window := none } })
    ∧ (∀ m, s.zq.tagWindow = some m → m.due s.tb = true →
        exec .tagReadWindowExpiry s = .next { s with zq := { s.zq with tagWindow := none } })
    ∧ (∀ m, s.ex.holdOff = some m → m.due s.tb = true →
        exec .holdOffExpiry s = .next (settle { s with ex := { s.ex with holdOff := none, holdOffZone := none } }))
    ∧ (∀ m, s.dc.runOn = some m → m.due s.tb = true →
        exec .runOnExpiry s = .next (settle { s with dc := { s.dc with runOn := none } }))

/-- The end of the start hold starts sampling in a configured node, and ends the halt when no other term is true; the
end of the quiet timer makes a RECOVERING node SERVING. (The order of the tests that `settle` stands for is the model's
choice, log entry 6.) -/
def Obligations.StartHoldAndQuietTimeEnd : Prop :=
  (∀ (m : Timer) (s : State), InUse s → s.sn.startHold = some m → m.due s.tb = true →
    ∃ t, exec .startHoldExpiry s = .next t ∧ t.sn.startHold = none ∧ t.sn.service = s.sn.service
      ∧ t.su = { s.su with period := some { start := s.tb, duration := itemNat s.ss.running .samplePeriod } }
      ∧ halted t = (s.sn.localTerm || !s.sn.stopSet.isEmpty)
      ∧ (halted t = false → ∀ e ∈ t.zq.expected,
          e.window = some { start := s.tb, duration := 1000 * itemNat s.ss.running .arrivalWindow })
      ∧ t.zq.expected.map (·.record) = s.zq.expected.map (·.record)
      ∧ t.ma = s.ma ∧ t.ss = s.ss ∧ t.tb = s.tb ∧ t.pending = s.pending)
  ∧ (∀ (m : Timer) (s : State), Awake s → s.sn.service = .recovering → s.sn.quiet = some m → m.due s.tb = true →
    exec .quietTimerExpiry s = .next (settle { s with sn := { s.sn with service := .serving, quiet := none } }))

/-- Entries that leave the expected list without their rack: at the expiry of its window an entry is LOST, counted and
noticed, and at a RECALL from its upstream zone with its serial the oldest such entry goes in silence with ACK; a RECALL
that names no entry is answered HOLD and changes nothing else. Run-on starts when the expected list becomes empty with the
queue empty, in service and not halted. -/
def Obligations.EntriesLeaveWithoutTheirRack : Prop :=
  let runOnAfter := fun (s : State) (left : List ExpectedEntry) =>
    if s.zq.queue = [] ∧ left = [] ∧ inService s = true ∧ halted s = false ∧ itemNat s.ss.running .runOn ≠ 0 then
      some { start := s.tb, duration := 1000 * itemNat s.ss.running .runOn } else s.dc.runOn
  (∀ (s : State) (before : List ExpectedEntry) (e : ExpectedEntry) (after : List ExpectedEntry) (m : Timer),
    Awake s → s.zq.expected = before ++ e :: after → e.window = some m → m.due s.tb = true →
    ∃ t, exec (.arrivalWindowExpiry before.length) s = .next t
      ∧ t.zq.expected = before ++ after ∧ t.sn.counts.lost = s.sn.counts.lost + 1
      ∧ t.zq.queue.length = s.zq.queue.length ∧ t.sn.service = s.sn.service
      ∧ t.dc.runOn = runOnAfter s (before ++ after)
      ∧ (configured s = true → s.li.tx.length < 8 → s.li.tx.countP (hasKind .notice) < 3 →
          ∃ x ∈ t.li.tx, x.frame.kind = .notice
            ∧ x.frame.body = [8, e.upstream.setWidth 8] ++ wordOctets ((e.record.tag.getD 0).setWidth 16)
                ++ [0, e.serial]))
  ∧ (∀ (source target : Addr) (serial : Byte) (s : State), Hearing s → FromOther source s →
      ownZone s = some target → 1 ≤ target.toNat → target.toNat ≤ 60 →
      (∀ before e after, s.zq.expected = before ++ e :: after → e.upstream = source → e.serial = serial →
        (∀ x ∈ before, ¬ (x.upstream = source ∧ x.serial = serial)) →
        ∃ t, exec (.recallReceived source target serial) s = .next t
          ∧ t.zq.expected = before ++ after ∧ t.li.slot = .ack ∧ t.zq.queue.length = s.zq.queue.length
          ∧ t.dc.runOn = runOnAfter s (before ++ after)
          ∧ t.sn.counts.lost = s.sn.counts.lost ∧ t.sn.service = s.sn.service)
      ∧ ((∀ x ∈ s.zq.expected, ¬ (x.upstream = source ∧ x.serial = serial)) →
        exec (.recallReceived source target serial) s = .next
          { s with li := { s.li with line := .busy, recessiveRun := 0, slot := .hold, aborting := false } }))

/-- At the end of the diverter travel the diverter is settled and EX is RELEASING, with the gate open in a zone that has
one and the release timer started; at the end of the release limit the offer is recalled, EX is CLOSED with the gate
closed, EXIT_STUCK is latched with the recalled offer's zone and serial and the head's tag, and the head stays. (The
order of the tests that `settle` stands for is the model's choice, log entry 6.) -/
def Obligations.TravelEndsAndReleaseSticks : Prop :=
  (∀ (m : Timer) (s : State), Awake s → s.ex.exit = .switching → s.ex.travel = some m → m.due s.tb = true →
    exec .diverterTravelExpiry s = .next (settle
      { s with ex := { s.ex with exit := .releasing, settled := true, travel := none, gate := (role s != .wash),
                                 release := some { start := s.tb,
                                                   duration := 1000 * itemNat s.ss.running .releaseLimit } } }))
  ∧ (∀ (m : Timer) (s : State) (o : Outlet) (z : Addr) (n : Byte), InUse s → s.ex.exit = .releasing →
    s.ex.release = some m → m.due s.tb = true → s.ex.outlet = some o → outletZone s.ss.running o = some z →
    s.ex.serial = some n → inService s = true → s.sn.faults.exitStuck = none →
    ∃ t, exec .releaseLimitExpiry s = .next t
      ∧ t.ex = { s.ex with exit := .closed, outlet := none, serial := none, travel := none, release := none,
                           gate := false }
      ∧ t.sn.service = .faulted ∧ t.dc.drive = .off ∧ t.zq.queue.length = s.zq.queue.length
      ∧ t.sn.counts = s.sn.counts
      ∧ t.sn.faults = { s.sn.faults with exitStuck := some {
            detail := z.setWidth 8, tag := ((s.zq.queue.head?.bind (·.tag)).getD 0).setWidth 16,
            value := n.setWidth 16, renotice := some { start := s.tb, duration := 10000 } } }
      ∧ (s.li.tx.length < 8 → ∃ e ∈ t.li.tx, e.frame = ownFrame s .recall z [n]))

/-- The timers of entries. At the STATE period a STATE of the body as it stands is placed and the period starts afresh;
at a latched fault's repeat its NOTICE is placed with the fields kept and the repeat starts afresh; at a LOAD's call
repeat its CALL is placed, heard now, in its place. A neighbour not heard for its silence time becomes ABSENT, with its
last STATE and the time it was heard kept, and NEIGHBOUR_LOST is placed; a SPUR's call not heard for 60 s leaves the
list with no frame and no count. Nothing else changes before the tests that follow. (The order of the tests that
`settle` stands for is the model's choice, log entry 6.) -/
def Obligations.EntryTimersRepeatOrEnd : Prop :=
  ∀ (m : Timer) (s : State), InUse s → m.due s.tb = true →
    (s.nt.period = some m → exec .statePeriodExpiry s = .next
      { sendFrame (ownFrame s .state 0 (stateOctets (ownBody s))) s with
        nt := { s.nt with period := some { start := s.tb, duration := 500 }, announced := some (ownBody s) } })
    ∧ (∀ k f, latched? s.sn.faults k = some f → f.renotice = some m → exec (.noticeRepeatExpiry k) s = .next
      { sendNotice (.fault k) f.detail f.tag f.value s with
        sn := { s.sn with faults := setLatched s.sn.faults k (some
                          { f with renotice := some { start := s.tb, duration := 10000 } }) } })
    ∧ (∀ e, role s = .load → s.cl.calls.find? (fun x => x.key.serial == e.key.serial) = some e → e.timer = some m →
      exec (.callRepeatExpiry e.key.serial) s = .next
        { sendFrame (ownFrame s .call 0 [e.key.station.setWidth 8, e.key.serial]) s with
          cl := { s.cl with calls := s.cl.calls.map fun x =>
            if x.key = e.key then { x with lastHeard := s.tb, timer := some { start := s.tb, duration := 20000 } }
            else x } })
    ∧ (∀ z n, neighbour? s z = some n → n.silence = some m → exec (.neighbourSilenceExpiry z) s = .next (settle
      (sendNotice .neighbourLost (z.setWidth 8) 0 0
        { s with nt := { s.nt with entries := s.nt.entries.map fun x =>
            if x.zone = z then { x with presence := .absent, silence := none } else x } })))
    ∧ (∀ e, role s = .spur → s.cl.calls.find? (fun x => x.key == e.key) = some e → e.timer = some m →
      exec (.callExpiry e.key.station e.key.serial) s = .next (settle
        { s with cl := { s.cl with calls := s.cl.calls.filter fun x => x.key != e.key } }))

/-! ## Samples -/

/-- A sample replaces SU's last values and restarts the period. The temperature is T_lo plus the floor of
c × (T_hi − T_lo) / 4095, the items travelling with 1,000 added, and none where the span endpoints are not set and in
order; the current is the floor of c × I_span / 4095, and I_span for a rail code. -/
def Obligations.SampleReplacesTheLastValues : Prop :=
  ∀ (probe current : AdcCode) (m : Timer) (s : State), Awake s → s.su.period = some m → m.due s.tb = true →
    ∃ t, exec (.sampleCompletion probe current) s = .next t
      ∧ t.su.period = some { start := s.tb, duration := itemNat s.ss.running .samplePeriod }
      ∧ t.su.lastProbe = some probe ∧ t.su.lastCurrentCode = some current
      ∧ (∀ lo hi, itemValue s.ss.running .tLo = some lo → itemValue s.ss.running .tHi = some hi →
          lo.toNat < hi.toNat → ∃ d : Nat, t.su.lastTemperature = some ((lo.toNat : Int) - 1000 + (d : Int))
            ∧ d * 4095 ≤ probe.toNat * (hi.toNat - lo.toNat)
            ∧ probe.toNat * (hi.toNat - lo.toNat) < (d + 1) * 4095)
      ∧ (itemValue s.ss.running .tLo = none ∨ itemValue s.ss.running .tHi = none
          ∨ itemNat s.ss.running .tHi ≤ itemNat s.ss.running .tLo → t.su.lastTemperature = none)
      ∧ (∃ i, t.su.lastCurrent = some i
          ∧ (current.toNat ≤ 8 ∨ 4087 ≤ current.toNat → i = itemNat s.ss.running .iSpan)
          ∧ (8 < current.toNat → current.toNat < 4087 →
              i * 4095 ≤ current.toNat * itemNat s.ss.running .iSpan
                ∧ current.toNat * itemNat s.ss.running .iSpan < (i + 1) * 4095))
      ∧ t.zq.expected = s.zq.expected ∧ t.zq.queue.map (·.tag) = s.zq.queue.map (·.tag)
      ∧ t.zq.queue.map (·.content) = s.zq.queue.map (·.content) ∧ t.cl.calls = s.cl.calls ∧ t.ma = s.ma
      ∧ t.ss = s.ss ∧ t.nt.entries = s.nt.entries ∧ t.sn.counts = s.sn.counts ∧ t.tb = s.tb ∧ t.pending = s.pending

/-- The current of a sample is held as the last current and handed to DC, which judges it while the drive runs and jam
checking is on: two samples passed over after a start, a current below I_jam setting the high count to 0, one at or above
it raising the count, and the third in a row latching JAM. A rail code counts as I_span and has no bearing on the probe's
fault count, which in a WASH zone follows the probe code alone and elsewhere stays. -/
def Obligations.CurrentIsHandedToTheJamCheck : Prop :=
  ∀ (probe current : AdcCode) (m : Timer) (s : State), Awake s → s.su.period = some m → m.due s.tb = true →
    let iSpan := itemNat s.ss.running .iSpan
    let iJam := itemNat s.ss.running .iJam
    let i := if current.toNat ≤ 8 ∨ 4087 ≤ current.toNat then iSpan else current.toNat * iSpan / 4095
    ∃ t, exec (.sampleCompletion probe current) s = .next t
      ∧ t.su.lastCurrent = some i
      ∧ t.su.faultCount = (if role s = .wash then
          if probe.toNat ≤ 8 ∨ 4087 ≤ probe.toNat then min (s.su.faultCount + 1) 3 else 0 else s.su.faultCount)
      ∧ (s.dc.drive = .off ∨ iJam = 0 → t.dc = s.dc)
      ∧ (s.dc.drive = .run → iJam ≠ 0 →
          (0 < s.dc.skip → t.dc = { s.dc with skip := s.dc.skip - 1 })
          ∧ (s.dc.skip = 0 → i < iJam → t.dc = { s.dc with high := 0 })
          ∧ (s.dc.skip = 0 → iJam ≤ i → s.dc.high < 2 → t.dc = { s.dc with high := s.dc.high + 1 })
          ∧ (s.dc.skip = 0 → iJam ≤ i → 2 ≤ s.dc.high → s.sn.faults.jam = none → inService s = true →
              t.dc = { drive := .off, runOn := none, skip := 0, high := 0 } ∧ t.sn.service = .faulted
                ∧ t.sn.faults.jam = some { detail := 0, tag := 0, value := BitVec.ofNat 16 i,
                                           renotice := some { start := s.tb, duration := 10000 } }))

/-- The probe result of a sample in a WASH zone. A faulted sample sets the fault-seen flag in every PENDING entry of the
queue, and when it leaves the count at 3 PROBE is latched. A good sample adds its increment to every PENDING entry, up
to 65,535, and nothing while the node is halted: the floor of w × P / 1,000, with the weight w from 0 at T_min to 1,000
at T_full. No record joins or leaves, and the expected list is untouched. (That every PENDING entry is changed, and the
weight where the thresholds lie far apart, are the model's readings, log entries 22 and 16.) -/
def Obligations.RinseCreditOfASample : Prop :=
  ∀ (probe current : AdcCode) (m : Timer) (s : State), InUse s → role s = .wash → s.su.period = some m →
    m.due s.tb = true →
    let n := fun i => itemNat s.ss.running i
    let temperature : Int := (n .tLo : Int) - 1000 + (probe.toNat : Int) * ((n .tHi : Int) - (n .tLo : Int)) / 4095
    let tMin : Int := (n .tMin : Int) - 1000
    let tFull : Int := (n .tFull : Int) - 1000
    let weight : Nat := if temperature ≤ tMin then 0 else if tFull ≤ temperature then 1000
      else (1000 * (temperature - tMin) / (tFull - tMin)).toNat
    let inc := weight * n .samplePeriod / 1000
    ∃ t, exec (.sampleCompletion probe current) s = .next t
      ∧ t.zq.queue.map (·.tag) = s.zq.queue.map (·.tag)
      ∧ t.zq.queue.map (·.content) = s.zq.queue.map (·.content) ∧ t.zq.expected = s.zq.expected
      ∧ (probe.toNat ≤ 8 ∨ 4087 ≤ probe.toNat →
          t.su.faultCount = min (s.su.faultCount + 1) 3
          ∧ t.zq.queue.map (·.results) = s.zq.queue.map (fun r =>
              r.results.map fun e => if e.verdict = .pending then { e with faultSeen := true } else e)
          ∧ (2 ≤ s.su.faultCount → s.sn.faults.probe = none →
              t.sn.faults.probe = some { detail := 0, tag := 0, value := probe.setWidth 16,
                                         renotice := some { start := s.tb, duration := 10000 } })
          ∧ (s.su.faultCount < 2 ∨ s.sn.faults.probe ≠ none → t.sn.faults.probe = s.sn.faults.probe))
      ∧ (8 < probe.toNat → probe.toNat < 4087 →
          t.su.faultCount = 0 ∧ t.sn.faults.probe = s.sn.faults.probe
          ∧ (halted s = true → t.zq.queue.map (·.results) = s.zq.queue.map (·.results))
          ∧ (halted s = false → t.zq.queue.map (·.results) = s.zq.queue.map (fun r =>
              r.results.map fun e =>
                if e.verdict = .pending then { e with credit := min 65535 (e.credit + inc) } else e)))

/-! ## The setup store -/

/-- A setup frame that the node takes is answered HOLD with no effect when its sender is no panel or a write cycle runs.
Otherwise it is answered ACK: SETUP-ENABLE sets the write-enable latch; SETUP-READ is answered by a REPLY with the stored
value; SETUP-WRITE is checked for an unknown item, the latch, the lock and the range, in that order, the first check that
fails clearing the latch and giving the REPLY's result, and with none failing the write cycle starts. The value in the REPLY
to a read of an unknown item is a free value (log entry 10). -/
def Obligations.SetupFramesAreTakenFromPanels : Prop :=
  ∀ (source target : Addr) (item : Byte) (value : Word16) (s : State), TakenAt target s → FromOther source s →
    let reply := fun (result high low : Byte) (t : State) => sendFrame
      { kind := .reply, source := target, target := source,
        body := [8, item, result, high, low] ++ List.replicate 23 0 } t
    (source ≠ 61 ∧ source ≠ 62 ∨ s.ss.cycle.isSome = true →
      ∀ c ∈ [Instr.setupEnable source target, .setupWrite source target item value, .setupRead source target item],
        exec c s = .next (driveSlot .hold (frameHeard s)))
    ∧ (source = 61 ∨ source = 62 → s.ss.cycle = none →
        exec (.setupEnable source target) s
          = .next (driveSlot .ack { frameHeard s with ss := { s.ss with writeEnable := true } })
        ∧ (itemOfNumber item.toNat = none →
            exec (.setupRead source target item) s = .next (driveSlot .ack
              (reply 5 (highOctet (Config.unknownItemValue item)) (lowOctet (Config.unknownItemValue item))
                (frameHeard s))))
        ∧ (∀ i, itemOfNumber item.toNat = some i →
            exec (.setupRead source target item) s = .next (driveSlot .ack
              (reply 0 (highOctet ((itemValue s.ss.store i).getD 65535))
                (lowOctet ((itemValue s.ss.store i).getD 65535)) (frameHeard s))))
        ∧ let refused := fun (result : Byte) =>
            exec (.setupWrite source target item value) s = .next (driveSlot .ack
              (reply result (highOctet value) (lowOctet value)
                { frameHeard s with ss := { s.ss with writeEnable := false } }))
          (itemOfNumber item.toNat = none → refused 5)
          ∧ ∀ i, itemOfNumber item.toNat = some i →
            let locked := itemValue s.ss.store .lock ≠ none ∧ (i = .zoneNumber ∨ i = .role ∨ i = .lock)
            let allowed := value = 65535 ∨ (value = 65534 ∧ itemDefault i ≠ none) ∨ itemInRange i value.toNat = true
            (s.ss.writeEnable = false → refused 2)
            ∧ (s.ss.writeEnable = true → locked → refused 4)
            ∧ (s.ss.writeEnable = true → ¬ locked → ¬ allowed → refused 3)
            ∧ (s.ss.writeEnable = true → ¬ locked → allowed →
                exec (.setupWrite source target item value) s = .next (driveSlot .ack
                  { frameHeard s with ss := { s.ss with cycle := some {
                      item := i,
                      value := if value = 65535 then none else if value = 65534 then itemDefault i else some value,
                      written := value, source := target, target := source,
                      timer := { start := s.tb, duration := 40 } } } })))

/-- At the end of its 40 ms the write cycle stores its item and no other, clears the latch, and places the REPLY DONE; the
running configuration and everything else stay as they are. -/
def Obligations.WriteCycleStoresItsItem : Prop :=
  ∀ (w : WriteCycle) (s : State), Awake s → s.ss.cycle = some w → w.timer.due s.tb = true →
    ∃ t, exec .writeCycleCompletion s = .next t
      ∧ itemValue t.ss.store w.item = w.value
      ∧ (∀ i, i ≠ w.item → itemValue t.ss.store i = itemValue s.ss.store i)
      ∧ t.ss.writeEnable = false ∧ t.ss.cycle = none ∧ t.ss.running = s.ss.running ∧ t.ss.window = s.ss.window
      ∧ { t with ss := s.ss, li := s.li } = s
      ∧ (s.li.tx.length < 8 → t.li = { s.li with tx := s.li.tx ++ [
            { frame := { kind := .reply, source := w.source, target := w.target,
                         body := [8, octet (itemNumber w.item), 0, highOctet w.written, lowOctet w.written]
                           ++ List.replicate 23 0 },
              attempts := 0, sending := false, replacement := none }] })

/-! ## The line -/

/-- The levels of the line and the errors of reception. A release lets the node receive again; another station's start
bit makes a released line BUSY. An insertion error and a complete frame that fails a check each count one receive error,
the first together with the abort mark leaving the node to wait for the release, and a node that waits takes none of
them. (That a BUSY line takes no further start bit is the model's choice, log entry 5; the recessive run between bits,
log entry 12; and the wait for the release and the reply slot are the model's own fields, log entry 11.) -/
def Obligations.LineLevelsAndReceiveErrors : Prop :=
  ∀ s : State, Awake s →
    exec .lineReleased s = .next { s with li := { s.li with line := .released, recessiveRun := 10,
                                                            awaitRelease := false, slot := .nothing,
                                                            aborting := false } }
    ∧ (s.li.line = .released → exec .lineBusy s = .next (frameHeard s))
    ∧ (s.li.line = .busy → exec .lineBusy s = .next s)
    ∧ (s.li.awaitRelease = true → ∀ f, exec .insertionError s = .next s ∧ exec .abortMark s = .next s
        ∧ exec (.receiveError f) s = .next s)
    ∧ (s.li.awaitRelease = false →
        exec .insertionError s = .next { s with li := { s.li with
          line := .busy, recessiveRun := 0, slot := .nothing, aborting := false, awaitRelease := true,
          receiveErrors := s.li.receiveErrors + 1 } }
        ∧ exec .abortMark s = .next { s with li := { s.li with
          line := .busy, recessiveRun := 0, slot := .nothing, aborting := false, awaitRelease := true } }
        ∧ ∀ f : LineFrame, 29 ≤ f.length.toNat ∨ f.check ≠ crc (checkedBits f.frame f.length)
              ∨ (f.frame.kind ≠ .reserved ∧ lengthAllowed f.frame.kind f.length.toNat = false) →
            exec (.receiveError f) s = .next { s with li := { s.li with
              line := .busy, recessiveRun := 0, slot := .nothing, aborting := false,
              receiveErrors := s.li.receiveErrors + 1 } })

/-- How a frame is placed, by the first case that applies: a STATE replaces the one in the list as its newest frame, or, while
that one is being sent, becomes its replacement; a NOTICE with three in the list, and any frame with eight, is dropped with
line drops raised; any other joins the list. An UNCONFIGURED node places only REPLY frames. With the line released LI starts
the first frame of its list: of the lowest kind code, and the oldest of that kind. With the line BUSY, a frame being sent
already or nothing to send, nothing happens. (That the start of a frame then has no effect is the model's choice, log entry 5;
so is the recessive run, log entry 12.) -/
def Obligations.FirstFrameInOrderIsSent : Prop :=
  (∀ (f : Frame) (s : State),
    let dropped := { s with li := { s.li with lineDrops := s.li.lineDrops + 1 } }
    let joins := f.kind = .state → ∀ x ∈ s.li.tx, x.frame.kind ≠ .state
    (configured s = false → f.kind ≠ .reply → sendFrame f s = s)
    ∧ (configured s = true ∨ f.kind = .reply →
      (∀ before e after, f.kind = .state → s.li.tx = before ++ e :: after → e.frame.kind = .state →
        (∀ x ∈ before ++ after, x.frame.kind ≠ .state) →
        (e.sending = false →
          sendFrame f s = { s with li := { s.li with tx := before ++ after ++ [freshEntry f] } })
        ∧ (e.sending = true →
          sendFrame f s = { s with li := { s.li with tx := before ++ { e with replacement := some f } :: after } }))
      ∧ (f.kind = .notice → 3 ≤ s.li.tx.countP (hasKind .notice) → sendFrame f s = dropped)
      ∧ (joins → 8 ≤ s.li.tx.length → sendFrame f s = dropped)
      ∧ (joins → (f.kind = .notice → s.li.tx.countP (hasKind .notice) < 3) → s.li.tx.length < 8 →
          sendFrame f s = { s with li := { s.li with tx := s.li.tx ++ [
            { frame := f, attempts := 0, sending := false, replacement := none }] } })))
  ∧ ∀ s : State, Awake s →
    (∀ before e after, s.li.line = .released → (∀ x ∈ s.li.tx, x.sending = false) →
      s.li.tx = before ++ e :: after →
      (∀ x ∈ before, kindCode e.frame.kind < kindCode x.frame.kind) →
      (∀ x ∈ after, kindCode e.frame.kind ≤ kindCode x.frame.kind) →
      exec .frameSendStart s = .next { s with li := { s.li with
        tx := before ++ { e with sending := true } :: after, line := .busy, recessiveRun := 0, slot := .nothing,
        aborting := false } })
    ∧ (s.li.line = .busy ∨ s.li.tx = [] ∨ (∃ x ∈ s.li.tx, x.sending = true) → exec .frameSendStart s = .next s)

/-- How a frame being sent leaves the list or waits in it. A lost arbitration leaves it with its attempt count; a completed
broadcast leaves the list, as does an addressed frame acknowledged or held, with no more effect unless it is a PASS or the
REPLY to RESTART; a self-check error, or a reply slot with neither bit, counts one attempt. After a self-check error the node
puts the abort mark, six dominant bits, on the line. A STATE's replacement takes the entry as a new frame in each case. At the
eighth attempt a frame that is neither a PASS nor the REPLY to RESTART leaves the list, line drops rises, and LINE_DROP is
placed unless the frame is itself a NOTICE. With no frame being sent none of these events has an effect. (The last of these is
the model's choice, log entry 5; how long the abort mark stands, log entry 12.) -/
def Obligations.SentFramesLeaveOrWait : Prop :=
  ∀ s : State, Awake s →
    ((∀ x ∈ s.li.tx, x.sending = false) → ∀ c ∈ [Instr.arbitrationLost, .selfCheckError, .broadcastSent,
        .replySlotRead true true, .replySlotRead true false, .replySlotRead false true, .replySlotRead false false],
      exec c s = .next s)
    ∧ ∀ before e after, s.li.tx = before ++ e :: after → (∀ x ∈ before, x.sending = false) → e.sending = true →
      let errs := fun (c : Instr) (drops : Word16) (tx : List TxEntry) =>
        { s with li := { s.li with tx := tx, lineDrops := s.li.lineDrops + drops,
                                   aborting := c == .selfCheckError || s.li.aborting } }
      let restart := e.frame.kind = .reply ∧ octetAt e.frame.body 0 = 7
      (∀ f, e.replacement = some f →
        (∀ c ∈ [Instr.arbitrationLost, .selfCheckError], exec c s = .next (errs c 0 (before ++ freshEntry f :: after)))
        ∧ (e.frame.target = 0 → exec .broadcastSent s = .next
          { s with li := { s.li with tx := before ++ after ++ [freshEntry f] } }))
      ∧ (e.replacement = none →
        exec .arbitrationLost s = .next
          { s with li := { s.li with tx := before ++ { e with sending := false } :: after } }
        ∧ (e.frame.target = 0 → exec .broadcastSent s = .next
          { s with li := { s.li with tx := before ++ after } })
        ∧ (e.frame.target ≠ 0 → e.frame.kind ≠ .pass → ¬ restart → ∀ ack hold, ack = true ∨ hold = true →
          exec (.replySlotRead ack hold) s = .next { s with li := { s.li with tx := before ++ after } })
        ∧ ∀ c, c = .selfCheckError ∨ (c = .replySlotRead false false ∧ e.frame.target ≠ 0) →
          (e.attempts < 7 → exec c s = .next (errs c 0
            (before ++ { e with sending := false, attempts := e.attempts + 1 } :: after)))
          ∧ (e.attempts = 7 → e.frame.kind = .notice → exec c s = .next (errs c 1 (before ++ after)))
          ∧ (e.attempts = 7 → e.frame.kind ≠ .notice → e.frame.kind ≠ .pass → ¬ restart → configured s = true →
              (before ++ after).length < 8 → (before ++ after).countP (hasKind .notice) < 3 →
              exec c s = .next (errs c 1 (before ++ after ++ [freshEntry (ownFrame s .notice 0
                [15, e.frame.target.setWidth 8, 0, 0, 0, octet (kindCode e.frame.kind)])]))))
      ∧ (¬ restart → ∃ t, exec .selfCheckError s = .next t ∧ sentBits t = List.replicate 6 false)

/-! ## The offer's outcome -/

/-- How EX takes the outcome of its PASS, with no call of the offer. HOLD: CLOSED, with the hold-off naming the
neighbour. Failure, at the eighth attempt: CLOSED, with LINE_DROP placed and a hold-off that names no neighbour. ACK:
recalled at once in a node that is halted or FAULTED or whose head was withdrawn; otherwise SWITCHING in a SORT or a
SPUR whose diverter is not settled at the outlet's position, and RELEASING in every other case. (The order of the tests
that `settle` stands for is the model's choice, log entry 6.) -/
def Obligations.PassOutcomesMoveTheExit : Prop :=
  ∀ (s : State) (before : List TxEntry) (e : TxEntry) (after : List TxEntry) (o : Outlet) (z : Addr) (n : Byte),
    Awake s → s.li.tx = before ++ e :: after → (∀ x ∈ before, x.sending = false) → e.sending = true →
    e.frame.kind = .pass → e.frame.target ≠ 0 → e.replacement = none → s.ex.exit = .offering →
    s.cl.offerCall = none → s.ex.outlet = some o → outletZone s.ss.running o = some z → s.ex.serial = some n →
    let sent := { s with li := { s.li with tx := before ++ after } }
    let closed := { s.ex with exit := .closed, outlet := none, serial := none, travel := none, release := none,
                              gate := false }
    let releasing := { s.ex with exit := .releasing, travel := none, gate := role s != .wash,
                                 release := some { start := s.tb,
                                                   duration := 1000 * itemNat s.ss.running .releaseLimit } }
    let recalled := halted s = true ∨ s.sn.service = .faulted ∨ s.ex.withdrawn = true
    let switching := (role s = .sort ∨ role s = .spur)
      ∧ ¬ (s.ex.position = outletPosition s.ss.running o ∧ s.ex.settled = true)
    let travel := itemNat s.ss.running .diverterTravel
    (∀ ack, exec (.replySlotRead ack true) s = .next (settle { sent with ex := { closed with
        holdOff := some { start := s.tb, duration := 1000 }, holdOffZone := some e.frame.target } }))
    ∧ (recalled → exec (.replySlotRead true false) s
        = .next (settle { sendFrame (ownFrame s .recall z [n]) sent with ex := closed }))
    ∧ (¬ recalled → ¬ switching → exec (.replySlotRead true false) s = .next (settle { sent with ex := releasing }))
    ∧ (¬ recalled → switching → travel = 0 → exec (.replySlotRead true false) s = .next (settle
        { sent with ex := { releasing with position := outletPosition s.ss.running o, settled := true } }))
    ∧ (¬ recalled → switching → travel ≠ 0 → exec (.replySlotRead true false) s = .next (settle
        { sent with ex := { s.ex with exit := .switching, position := outletPosition s.ss.running o, settled := false,
                                      travel := some { start := s.tb, duration := travel } } }))
    ∧ (e.attempts = 7 → ∀ c ∈ [Instr.selfCheckError, .replySlotRead false false], exec c s = .next (settle
        { sendNotice .lineDrop (e.frame.target.setWidth 8) 0 2
            { sent with li := { sent.li with lineDrops := s.li.lineDrops + 1,
                                             aborting := c == .selfCheckError || s.li.aborting } } with
          ex := { closed with holdOff := some { start := s.tb, duration := 1000 }, holdOffZone := none } }))

/-- How a SPUR settles the call of its offer. ACK: ANSWER is placed with the call's key and the tag of the record, the call
leaves the list and the answered count rises; the offer is then recalled, or the exit goes on to SWITCHING or RELEASING, as for
any offer. HOLD and failure: EX returns to CLOSED, and the call stays. A HOLD, a failure and a RECALL make the head's bound
call and the call of the offer none. The tag of a withdrawn record is the one its PASS carried, which is the model's choice
(log entry 8). (The order of the tests that `settle` stands for is the model's choice, log entry 6.) -/
def Obligations.SpurSettlesTheCallOfItsOffer : Prop :=
  ∀ (s : State) (before : List TxEntry) (e : TxEntry) (after : List TxEntry) (o : Outlet) (z : Addr) (n : Byte)
    (key : CallKey),
    InUse s → role s = .spur → s.li.tx = before ++ e :: after → (∀ x ∈ before, x.sending = false) →
    e.sending = true → e.frame.kind = .pass → e.frame.target ≠ 0 → e.replacement = none →
    s.ex.exit = .offering → s.cl.offerCall = some key → s.ex.outlet = some o →
    outletZone s.ss.running o = some z → s.ex.serial = some n →
    let sent := { s with li := { s.li with tx := before ++ after } }
    let unbound := match s.zq.queue with
      | [] => s.zq
      | head :: rest => if s.ex.withdrawn then s.zq else { s.zq with queue := { head with bound := none } :: rest }
    let tag := if s.ex.withdrawn then wordAt e.frame.body 1
      else ((s.zq.queue.head?.bind (·.tag)).getD 0).setWidth 16
    let answered := { sendFrame (ownFrame s .answer 0 ([key.station.setWidth 8, key.serial] ++ wordOctets tag)) sent with
      cl := { s.cl with calls := s.cl.calls.filter (fun c => c.key != key) },
      sn := { s.sn with counts := { s.sn.counts with answered := s.sn.counts.answered + 1 } } }
    let closed := { s.ex with exit := .closed, outlet := none, serial := none, travel := none, release := none,
                              gate := false }
    let releasing := { s.ex with exit := .releasing, travel := none, gate := true,
                                 release := some { start := s.tb,
                                                   duration := 1000 * itemNat s.ss.running .releaseLimit } }
    let holdOff := some { start := s.tb, duration := 1000 }
    let recalled := halted s = true ∨ s.sn.service = .faulted ∨ s.ex.withdrawn = true
    let inPlace := s.ex.position = outletPosition s.ss.running o ∧ s.ex.settled = true
    let travel := itemNat s.ss.running .diverterTravel
    (∀ ack, exec (.replySlotRead ack true) s = .next (settle
      { sent with zq := unbound,
                  cl := { s.cl with offerCall := none },
                  ex := { closed with holdOff := holdOff, holdOffZone := some e.frame.target } }))
    ∧ (e.attempts = 7 → ∀ c ∈ [Instr.selfCheckError, .replySlotRead false false], exec c s = .next (settle
        { sendNotice .lineDrop (e.frame.target.setWidth 8) 0 2
            { sent with li := { sent.li with lineDrops := s.li.lineDrops + 1,
                                             aborting := c == .selfCheckError || s.li.aborting } } with
          zq := unbound,
          cl := { s.cl with offerCall := none },
          ex := { closed with holdOff := holdOff, holdOffZone := none } }))
    ∧ (recalled → exec (.replySlotRead true false) s = .next (settle
        { sendFrame (ownFrame s .recall z [n]) answered with
          zq := unbound,
          cl := { answered.cl with offerCall := none },
          ex := closed }))
    ∧ (¬ recalled → inPlace → exec (.replySlotRead true false) s = .next (settle { answered with ex := releasing }))
    ∧ (¬ recalled → ¬ inPlace → travel = 0 → exec (.replySlotRead true false) s = .next (settle
        { answered with ex := { releasing with position := outletPosition s.ss.running o, settled := true } }))
    ∧ (¬ recalled → ¬ inPlace → travel ≠ 0 → exec (.replySlotRead true false) s = .next (settle
        { answered with ex := { s.ex with exit := .switching, position := outletPosition s.ss.running o,
                                          settled := false, travel := some { start := s.tb, duration := travel } } }))

/-! ## Reception -/

/-- The frames a node does not take. Every command of reception, FRAME_IGNORED among them, takes its frame by the same
rule, whatever its kind: none while the node waits for the release; a receive error for a length not allowed for the
kind; nothing for kind 15; HOLD for a target that the kind does not allow when it is the node's own number; and nothing
for any other target the kind does not allow, for another zone's or a panel's, and for the setup address outside the
setup window. A NOTICE is discarded, and so is a REPLY. An UNCONFIGURED node takes only frames to the setup address in
its window. (That a frame is taken whatever the node itself is sending is the model's choice, log entry 17.) -/
def Obligations.FramesNotForTheNodeHaveNoEffect : Prop :=
  ∀ (c : Instr) (f : Frame) (s : State), receivedFrame c = some f → Awake s →
    let otherwise := f.target ≠ 0 ∧ ownZone s ≠ some f.target ∧ (f.target = 63 → s.ss.window = none)
    (s.li.awaitRelease = true → exec c s = .next s)
    ∧ (s.li.awaitRelease = false →
        (lengthAllowed f.kind f.body.length = false → exec c s = .next { s with li := { s.li with
          line := .busy, recessiveRun := 0, slot := .nothing, aborting := false, receiveErrors := s.li.receiveErrors + 1 } })
        ∧ (f.kind = .reserved → exec c s = .next (frameHeard s))
        ∧ (f.kind ≠ .reserved → lengthAllowed f.kind f.body.length = true →
            (configured s = true → FromOther f.source s →
              (targetAllowed f.kind f.target = false → exec c s = .next
                (if ownZone s = some f.target then driveSlot .hold (frameHeard s) else frameHeard s))
              ∧ (targetAllowed f.kind f.target = true → otherwise → exec c s = .next (frameHeard s))
              ∧ (f.kind = .notice → f.target = 0 → exec c s = .next (frameHeard s)))
            ∧ (configured s = false →
                targetAllowed f.kind f.target = false ∨ f.target ≠ 63 ∨ s.ss.window = none →
                exec c s = .next (frameHeard s))))
    ∧ (Hearing s → ∀ source target kind detail tag value body, FromOther source s →
        exec (.noticeReceived source kind detail tag value) s = .next (frameHeard s)
        ∧ (body.length = 28 → ownZone s ≠ some target →
            exec (.replyReceived source target body) s = .next (frameHeard s)))

/-- A good frame that bears the node's own number latches DUPLICATE_ZONE, with its kind code as the value, and a node in
service becomes FAULTED; while the fault is latched a further one changes nothing of it. -/
def Obligations.OwnNumberHeardIsADuplicate : Prop :=
  ∀ (c : Instr) (f : Frame) (s : State), receivedFrame c = some f → Hearing s → ownZone s = some f.source →
    f.kind ≠ .reserved → f.kind ≠ .clear → f.kind ≠ .ask → lengthAllowed f.kind f.body.length = true →
    ∃ t, exec c s = .next t
      ∧ (s.sn.faults.duplicateZone = none →
          t.sn.faults = { s.sn.faults with duplicateZone := some {
            detail := 0, tag := 0, value := BitVec.ofNat 16 (kindCode f.kind),
            renotice := some { start := s.tb, duration := 10000 } } }
          ∧ (inService s = true → t.sn.service = .faulted ∧ t.dc.drive = .off ∧ t.sn.quiet = none))
      ∧ (∀ l, s.sn.faults.duplicateZone = some l → t.sn.faults = s.sn.faults ∧ t.sn.service = s.sn.service)
      ∧ t.zq.queue.length = s.zq.queue.length ∧ t.sn.counts.lost = s.sn.counts.lost ∧ t.ss.store = s.ss.store

/-- STOP adds its source to the stop set and halts the node: the drive off, the gate closed, no quiet timer, every
arrival window stopped, an offer in SWITCHING or RELEASING recalled and a SPUR's binding undone. GO from a panel empties
the stop set and GO from a zone removes that zone; when no other term holds the node is halted no longer and every arrival
window restarts in full. (The order of the tests that `settle` stands for is the model's choice, log entry 6.) -/
def Obligations.StopAndGoChangeTheStopSet : Prop :=
  ∀ (source : Addr) (s : State), Hearing s → FromOther source s →
    (source.toNat ≤ 62 → ∃ t, exec (.stopReceived source) s = .next t
      ∧ t.sn.stopSet = (if source ∈ s.sn.stopSet then s.sn.stopSet else s.sn.stopSet ++ [source])
      ∧ halted t = true ∧ t.sn.service = s.sn.service ∧ t.sn.localTerm = s.sn.localTerm
      ∧ (halted s = false → t.dc.drive = .off ∧ t.dc.runOn = none ∧ t.sn.quiet = none
          ∧ t.zq.expected = s.zq.expected.map (fun e => { e with window := none })
          ∧ (s.ex.exit = .switching ∨ s.ex.exit = .releasing → t.ex.exit = .closed ∧ t.ex.gate = false))
      ∧ (halted s = true → t.zq.expected = s.zq.expected ∧ t.ex = s.ex)
      ∧ t.sn.startHold = s.sn.startHold
      ∧ (halted s = false → s.ex.exit = .switching ∨ s.ex.exit = .releasing →
          ∀ o z n, s.ex.outlet = some o → outletZone s.ss.running o = some z → s.ex.serial = some n →
          (s.li.tx.length < 8 → ∃ e ∈ t.li.tx, e.frame = ownFrame s .recall z [n])
          ∧ (s.cl.offerCall ≠ none → t.cl.offerCall = none
              ∧ ∀ head rest, s.zq.queue = head :: rest → t.zq.queue = { head with bound := none } :: rest))
      ∧ t.zq.queue.length = s.zq.queue.length ∧ t.ma = s.ma ∧ t.su = s.su ∧ t.ss = s.ss ∧ t.tb = s.tb)
    ∧ (source.toNat ≤ 62 → ∃ t, exec (.goReceived source) s = .next t
      ∧ t.sn.stopSet = (if source.toNat ≤ 60 then s.sn.stopSet.filter (· != source) else [])
      ∧ t.sn.service = s.sn.service ∧ t.sn.localTerm = s.sn.localTerm ∧ t.sn.startHold = s.sn.startHold
      ∧ halted t = (s.sn.localTerm || !t.sn.stopSet.isEmpty || s.sn.startHold.isSome)
      ∧ (halted s = true → halted t = false → t.zq.expected = s.zq.expected.map (fun e =>
          { e with window := some { start := s.tb, duration := 1000 * itemNat s.ss.running .arrivalWindow } }))
      ∧ (halted t = halted s → t.zq.expected = s.zq.expected)
      ∧ t.zq.queue.length = s.zq.queue.length ∧ t.ma = s.ma ∧ t.su = s.su ∧ t.ss = s.ss ∧ t.tb = s.tb)
    ∧ (source = 63 → exec (.stopReceived source) s = .next (settle (frameHeard s))
        ∧ exec (.goReceived source) s = .next (settle (frameHeard s)))

/-! ## PASS -/

/-- A PASS addressed to the node is held by one that is not SERVING, is halted or has no free place, and when its source
is no upstream zone; a HOLD changes nothing. Otherwise, in a role that is neither MERGE nor LOAD, it is acknowledged:
the clamped record joins the expected list with the source, the serial and a full arrival window, run-on and the quiet
timer end, and nothing else changes before the tests that follow. (The order of the tests that `settle` stands for is
the model's choice, log entry 6.) -/
def Obligations.PassIsHeldOrTaken : Prop :=
  ∀ (source target : Addr) (body : List Byte) (s : State), Hearing s → FromOther source s →
    ownZone s = some target → 1 ≤ target.toNat → target.toNat ≤ 60 → body.length ∈ [9, 13, 17, 21, 25] →
    let upstream := inletZone s.ss.running .one = some source ∨ inletZone s.ss.running .two = some source
    let full := capacity s ≤ s.zq.queue.length + s.zq.expected.length
    let entry : ExpectedEntry :=
      { record := clampedRecord body, upstream := source, serial := octetAt body 0,
        window := some { start := s.tb, duration := 1000 * itemNat s.ss.running .arrivalWindow } }
    (¬ upstream ∨ s.sn.service ≠ .serving ∨ halted s = true ∨ full →
      exec (.passReceived source target body) s = .next (driveSlot .hold (frameHeard s)))
    ∧ (upstream → s.sn.service = .serving → halted s = false → ¬ full → role s ≠ .merge → role s ≠ .load →
      exec (.passReceived source target body) s = .next (driveSlot .ack (settle
        { frameHeard s with zq := { s.zq with expected := s.zq.expected ++ [entry] },
                            dc := { s.dc with runOn := none }, sn := { s.sn with quiet := none } })))

/-- The arbiter of a MERGE that is SERVING, not halted and not full. An upstream waits when it is PRESENT and its STATE shows
its head waiting for this node. With two distinct upstreams, ALTERNATE holds a PASS when the other upstream waits, one place
is free and the turn names the other, and an ACK passes the turn to the other when it waits. PRIORITY holds upstream 2 while
upstream 1 waits and the guard count is below 4, and upstream 1 while the guard count is 4 or more, upstream 2 waits and one
place is free; an ACK to upstream 1 counts when upstream 2 waits, and one to upstream 2 returns the count to 0. A HOLD
changes nothing. -/
def Obligations.ArbiterDecidesAtAMerge : Prop :=
  ∀ (source target : Addr) (body : List Byte) (u : Inlet) (s : State), Hearing s → FromOther source s →
    ownZone s = some target → 1 ≤ target.toNat → target.toNat ≤ 60 → body.length ∈ [9, 13, 17, 21, 25] →
    role s = .merge → inletZone s.ss.running u = some source →
    (u = .two → inletZone s.ss.running .one ≠ some source) →
    s.sn.service = .serving → halted s = false → s.zq.queue.length + s.zq.expected.length < capacity s →
    let other := otherInlet u
    let distinct := inletZone s.ss.running .one ≠ inletZone s.ss.running .two
    let waiting := ∃ z n b, inletZone s.ss.running other = some z ∧ neighbour? s z = some n ∧ n.presence = .present
      ∧ n.last = some b ∧ b.flags.getLsbD 2 = true ∧ b.waited = target.setWidth 8
    let alternate := itemNat s.ss.running .mergeMode = 0
    let held := distinct ∧ waiting ∧
      ((alternate ∧ freePlaces s = 1 ∧ s.ma.turn = other)
        ∨ (¬ alternate ∧ u = .two ∧ s.ma.guard < 4)
        ∨ (¬ alternate ∧ u = .one ∧ 4 ≤ s.ma.guard ∧ freePlaces s = 1))
    (held → exec (.passReceived source target body) s = .next (driveSlot .hold (frameHeard s)))
    ∧ (¬ held → ∃ t, exec (.passReceived source target body) s = .next t
        ∧ t.li.slot = .ack ∧ t.zq.expected.length = s.zq.expected.length + 1
        ∧ (¬ distinct → t.ma = s.ma)
        ∧ (distinct → alternate → (waiting → t.ma = { s.ma with turn := other }) ∧ (¬ waiting → t.ma = s.ma))
        ∧ (distinct → ¬ alternate → u = .one →
            (waiting → t.ma = { s.ma with guard := if s.ma.guard < 255 then s.ma.guard + 1 else 255 })
              ∧ (¬ waiting → t.ma = s.ma))
        ∧ (distinct → ¬ alternate → u = .two → t.ma = { s.ma with guard := 0 }))

/-- A LOAD judges the bound call of a record it acknowledges: absent, neither satisfied nor surplus; an outstanding
call, satisfied and taken off the list; any other, surplus, counted and noticed. Nothing is released from the queue by
it. (The order of the tests that `settle` stands for is the model's choice, log entry 6.) -/
def Obligations.LoadJudgesTheBoundCall : Prop :=
  ∀ (source target : Addr) (body : List Byte) (s : State), Hearing s → FromOther source s →
    ownZone s = some target → 1 ≤ target.toNat → target.toNat ≤ 60 → body.length ∈ [9, 13, 17, 21, 25] →
    role s = .load → inletZone s.ss.running .one = some source →
    s.sn.service = .serving → halted s = false → s.zq.queue.length + s.zq.expected.length < capacity s →
    let entry : ExpectedEntry :=
      { record := clampedRecord body, upstream := source, serial := octetAt body 0,
        window := some { start := s.tb, duration := 1000 * itemNat s.ss.running .arrivalWindow } }
    let joined := { frameHeard s with zq := { s.zq with expected := s.zq.expected ++ [entry] },
                                      dc := { s.dc with runOn := none }, sn := { s.sn with quiet := none } }
    ((clampedRecord body).bound = none →
      exec (.passReceived source target body) s = .next (driveSlot .ack (settle joined)))
    ∧ ∀ key, (clampedRecord body).bound = some key →
      ((∃ e ∈ s.cl.calls, e.key = key) → exec (.passReceived source target body) s = .next (driveSlot .ack (settle
        { joined with cl := { s.cl with calls := s.cl.calls.filter fun e => e.key != key } })))
      ∧ ((∀ e ∈ s.cl.calls, e.key ≠ key) → exec (.passReceived source target body) s = .next (driveSlot .ack (settle
        (sendNotice .surplus (source.setWidth 8) (((clampedRecord body).tag.getD 0).setWidth 16) (key.serial.setWidth 16)
          { joined with sn := { joined.sn with counts :=
              { s.sn.counts with surplus := s.sn.counts.surplus + 1 } } }))))

/-- The record of a PASS is clamped field by field, as many results being read as the body length gives; a result is kept
when its stage lies within 1 to 4 and no earlier result of the PASS has it, and those kept stay in their order. -/
def Obligations.PassRecordIsClamped : Prop :=
  ∀ body : List Byte, body.length ∈ [9, 13, 17, 21, 25] →
    let r := clampedRecord body
    let at' := fun n => (body.getD n 0).toNat
    let tag := at' 1 * 256 + at' 2
    let stage := fun i => at' (9 + 4 * i)
    (r.tag.isSome = true ↔ 1 ≤ tag ∧ tag ≤ 4095) ∧ (∀ t, r.tag = some t → t.toNat = tag)
    ∧ r.content = (match at' 3 with | 0 => .empty | 1 => .soiled | 2 => .clean | 3 => .reject | _ => .unknown)
    ∧ (r.origin.isSome = true ↔ 1 ≤ at' 4 ∧ at' 4 ≤ 15) ∧ (∀ st, r.origin = some st → st.toNat = at' 4)
    ∧ r.washes = (if at' 5 ≤ 3 then at' 5 else 3)
    ∧ (r.bound.isSome = true ↔ 1 ≤ at' 6 ∧ at' 6 ≤ 15)
    ∧ (∀ k, r.bound = some k → k.station.toNat = at' 6 ∧ k.serial.toNat = at' 7)
    ∧ r.results = ((List.range ((body.length - 9) / 4)).filter fun i =>
          1 ≤ stage i && stage i ≤ 4 && (List.range i).all fun j => stage j != stage i).map fun i =>
        { stage := stage i, credit := at' (10 + 4 * i) * 256 + at' (11 + 4 * i),
          verdict := match at' (12 + 4 * i) with | 1 => .met | 3 => .probeLost | _ => .short
          faultSeen := false }

/-- The body of a PASS carries its record: for every record within its ranges, with no PENDING result, the body has an
allowed length and the serial first, and the record read from it is the record it was built from. -/
def Obligations.PassBodyCarriesTheRecord : Prop :=
  ∀ (serial : Byte) (r : RackRecord), RecordOk r → (∀ e ∈ r.results, e.verdict ≠ .pending ∧ e.faultSeen = false) →
    r.tag ≠ some 0 → r.origin ≠ some 0 → (∀ k, r.bound = some k → k.station ≠ 0) →
    (passBody serial r).length = 9 + 4 * r.results.length
      ∧ lengthAllowed .pass (passBody serial r).length = true
      ∧ octetAt (passBody serial r) 0 = serial ∧ clampedRecord (passBody serial r) = r

/-! ## Neighbours, calls, faults and enquiries -/

/-- What a STATE carries, and how one is taken. The body of the node's STATE shows its service state, the halt condition, the
drive, whether the head is at the exit, the free places, the lengths of the queue and the expected list, and the waited-for
zone: the zone of the head's outlet while the head waits at the exit of a node in service, CLOSED or OFFERING, and 0 in every
other case, a head with no outlet included. A STATE from a zone of the neighbour table replaces what the table holds of it,
with the time and a silence timer in full; showing a free place, it ends the hold-off that the neighbour's HOLD started. A
STATE from any other zone is discarded. (In OFFERING the outlet is that of the offer, log entry 20; the order of the tests
that `settle` stands for is the model's choice, log entry 6.) -/
def Obligations.StateIsTakenFromANeighbour : Prop :=
  (∀ s : State,
    let b := ownBody s
    let zoneOctet := fun (o : Outlet) => ((outletZone s.ss.running o).map (·.setWidth 8)).getD (0 : Byte)
    let waits := s.zq.queue ≠ [] ∧ s.zq.eyeX = true ∧ (s.sn.service = .recovering ∨ s.sn.service = .serving)
    stateOctets b = [b.service, b.flags, b.free, b.queue, b.expected, b.waited]
    ∧ (s.sn.service = .recovering → b.service = 1) ∧ (s.sn.service = .serving → b.service = 2)
    ∧ (s.sn.service = .faulted → b.service = 3)
    ∧ b.flags.getLsbD 0 = halted s ∧ (b.flags.getLsbD 1 = true ↔ s.dc.drive = .run)
    ∧ (b.flags.getLsbD 2 = true ↔ s.zq.queue ≠ [] ∧ s.zq.eyeX = true) ∧ (∀ k, 3 ≤ k → b.flags.getLsbD k = false)
    ∧ b.free = BitVec.ofNat 8 (capacity s - s.zq.queue.length - s.zq.expected.length)
    ∧ b.queue = BitVec.ofNat 8 s.zq.queue.length ∧ b.expected = BitVec.ofNat 8 s.zq.expected.length
    ∧ (¬ waits ∨ s.ex.exit = .switching ∨ s.ex.exit = .releasing ∨ headOutlet s = none → b.waited = 0)
    ∧ (∀ o, waits → headOutlet s = some o → s.ex.exit = .closed → b.waited = zoneOctet o)
    ∧ (∀ o, waits → headOutlet s ≠ none → s.ex.exit = .offering → s.ex.outlet = some o → b.waited = zoneOctet o)
    ∧ ∀ head rest, s.zq.queue = head :: rest → headOutlet s = match role s with
        | .feed | .merge | .wash => some .one
        | .load => if head.content = .soiled then some .one else none
        | .unload => if head.content = .empty then some .one else none
        | .sort => s.sl.judgement.map (·.outlet)
        | .spur => some (spurChoice s head).1)
  ∧ ∀ (source : Addr) (b : StateBody) (s : State), Hearing s → FromOther source s →
    (∀ n, neighbour? s source = some n → exec (.stateReceived source b) s = .next (settle
      { frameHeard s with
        nt := { s.nt with entries := s.nt.entries.map fun x =>
          if x.zone = source then
            { zone := source, last := some b, lastHeard := some s.tb, presence := .present,
              silence := some { start := s.tb, duration := 1500 } }
          else x },
        ex := if s.ex.holdOff ≠ none ∧ s.ex.holdOffZone = some source ∧ b.free ≠ 0 then
            { s.ex with holdOff := none, holdOffZone := none }
          else s.ex }))
    ∧ (neighbour? s source = none → exec (.stateReceived source b) s = .next (frameHeard s))

/-- A CALL at a SPUR, by the first case that applies: discarded for a station that is neither its own nor downstream,
refreshed in its place for a key in the list, not stored in a full list or beyond three of a station, and otherwise
stored at the tail. Every other role discards it. (The order of the tests that `settle` stands for is the model's
choice, log entry 6.) -/
def Obligations.SpurStoresCalls : Prop :=
  ∀ (source : Addr) (station serial : Byte) (s : State), Hearing s → FromOther source s →
    let stored := exec (.callReceived source station serial) s
    (role s ≠ .spur ∨ station = 0 ∨ 15 < station.toNat → stored = .next (frameHeard s))
    ∧ ∀ st : Station, role s = .spur → station = st.setWidth 8 → st ≠ 0 →
      let key : CallKey := { station := st, serial := serial }
      let entry : CallEntry := { key := key, lastHeard := s.tb, timer := some { start := s.tb, duration := 60000 } }
      let taken := runningStation s.ss.running = some st
        ∨ (itemNat s.ss.running .downstreamStations).testBit (st.toNat - 1) = true
      let full := s.cl.calls.length ≥ 24 ∨ s.cl.calls.countP (fun e => e.key.station == st) ≥ 3
      (¬ taken → stored = .next (settle (frameHeard s)))
      ∧ (taken → (∃ e ∈ s.cl.calls, e.key = key) → stored = .next (settle { frameHeard s with
          cl := { s.cl with calls := s.cl.calls.map fun e => if e.key = key then entry else e } }))
      ∧ (taken → (∀ e ∈ s.cl.calls, e.key ≠ key) → full → stored = .next (settle (frameHeard s)))
      ∧ (taken → (∀ e ∈ s.cl.calls, e.key ≠ key) → ¬ full → stored = .next (settle { frameHeard s with
          cl := { s.cl with calls := s.cl.calls ++ [entry] } }))

/-- An ANSWER or a DECLINE at a LOAD or a SPUR removes the entry with its key, timer and all, whatever the tag of the
ANSWER and the service state, and is ignored when no entry has the key; in any other role it has no effect. (The order
of the tests that `settle` stands for is the model's choice, log entry 6.) -/
def Obligations.AnswersAndDeclinesRemoveTheirCall : Prop :=
  ∀ (source : Addr) (st : Station) (serial : Byte) (tag : Word16) (s : State), Hearing s → FromOther source s →
    st ≠ 0 →
    let key : CallKey := { station := st, serial := serial }
    ∀ c ∈ [Instr.answerReceived source (st.setWidth 8) serial tag, .declineReceived source (st.setWidth 8) serial],
      (role s = .load ∨ role s = .spur → exec c s = .next (settle { frameHeard s with
        cl := { s.cl with calls := s.cl.calls.filter fun e => e.key != key } }))
      ∧ (role s ≠ .load → role s ≠ .spur → exec c s = .next (frameHeard s))
      ∧ ((∀ e ∈ s.cl.calls, e.key ≠ key) → role s = .load ∨ role s = .spur →
          exec c s = .next (settle (frameHeard s)))

/-- CLEAR at the node's number is answered ACK. Codes 1 to 5 unlatch their fault kind, 255 every kind, and any other
code none; a FAULTED node with none of JAM, EXIT_STUCK, OVERFULL and DUPLICATE_ZONE left latched becomes RECOVERING.
(The order of the tests that `settle` stands for is the model's choice, log entry 6.) -/
def Obligations.ClearUnlatchesFaults : Prop :=
  ∀ (source target : Addr) (code : Byte) (s : State), Hearing s → FromOther source s →
    ownZone s = some target → 1 ≤ target.toNat → target.toNat ≤ 60 →
    let f := s.sn.faults
    let left : Faults := match code.toNat with
      | 1 => { f with jam := none }
      | 2 => { f with exitStuck := none }
      | 3 => { f with overfull := none }
      | 4 => { f with duplicateZone := none }
      | 5 => { f with probe := none }
      | 255 => { jam := none, exitStuck := none, overfull := none, duplicateZone := none, probe := none }
      | _ => f
    let free := left.jam = none ∧ left.exitStuck = none ∧ left.overfull = none ∧ left.duplicateZone = none
    exec (.clear source target code) s = .next (driveSlot .ack (settle
      { frameHeard s with sn := { s.sn with
          faults := left, service := if s.sn.service = .faulted ∧ free then .recovering else s.sn.service } }))

/-- An ASK that the node takes is answered ACK, and a panel gets a REPLY: result OK with the topic's data, or NONE for an
index or a topic outside its range. Nothing else changes. RESTART has a statement of its own. -/
def Obligations.EnquiriesAreAnswered : Prop :=
  ∀ (c : Instr) (source target : Addr) (topic index : Byte) (s : State), TakenAt target s → FromOther source s →
    (c, topic.toNat) ∈ [(.askStatus source target index, 0), (.askCounts source target index, 1),
      (.askQueue source target index, 2), (.askExpected source target index, 3), (.askCalls source target index, 4),
      (.askNeighbour source target index, 5), (.askRunning source target index, 6),
      (.askTopicOutsideRange source target topic index, max 8 topic.toNat)] →
    (source = 61 ∨ source = 62 → exec c s = .next (sendFrame
      { kind := .reply, source := target, target := source,
        body := match askData topic index s with
          | some data => ([topic, index, 0] ++ data ++ List.replicate 25 0).take 28
          | none => [topic, index, 1] ++ List.replicate 25 0 } (driveSlot .ack (frameHeard s))))
    ∧ (source ≠ 61 → source ≠ 62 → exec c s = .next (driveSlot .ack (frameHeard s)))
    ∧ (7 < topic.toNat → askData topic index s = none)

/-- The data of the enquiries, topic by topic, and that a REPLY has room for all of it: never more than 25 octets for a
node whose queue and expected list are within their ranges. A record of the queue is coded as the octets 1 to 24 of a PASS body
with its PENDING entry left out, and one of the expected list in the same way without the result count. A time since last
heard stops at 65535, and is 65535 for a neighbour never heard, whose STATE body is then 0. (For a neighbour not heard for
2^32 ms the time is the model's choice, log entry 25.) -/
def Obligations.ReplyHoldsItsData : Prop :=
  ∀ (index : Byte) (s : State),
    let record := fun (r : RackRecord) =>
      (passBody 0 { r with results := r.results.filter fun e => e.verdict != .pending }).drop 1
    let since := fun (heard : Option Time) => wordOctets (match heard with
      | some h => BitVec.ofNat 16 (min (s.tb - h).toNat 65535)
      | none => 65535)
    (∃ data, askData 0 index s = some data
      ∧ data.take 3 = [octet (serviceCode s.sn.service), octet (exitCode s.ex.exit), octet (driveCode s.dc.drive)]
      ∧ (data.drop 4).take 1 = [octet s.sn.stopSet.length]
      ∧ data.drop 6 = [octet (causeCode s.sn.resetCause), octet s.sn.resets, if s.cl.stationOpen then 1 else 0,
          octet ((s.sn.reason.map (·.row)).getD 0), octet ((s.sn.reason.map (·.item)).getD 0)]
      ∧ (octetAt data 3).getLsbD 0 = s.sn.localTerm ∧ (octetAt data 3).getLsbD 1 = !s.sn.stopSet.isEmpty
      ∧ (octetAt data 3).getLsbD 2 = s.sn.startHold.isSome
      ∧ (octetAt data 5).getLsbD 0 = s.sn.faults.jam.isSome ∧ (octetAt data 5).getLsbD 1 = s.sn.faults.exitStuck.isSome
      ∧ (octetAt data 5).getLsbD 2 = s.sn.faults.overfull.isSome
      ∧ (octetAt data 5).getLsbD 3 = s.sn.faults.duplicateZone.isSome
      ∧ (octetAt data 5).getLsbD 4 = s.sn.faults.probe.isSome)
    ∧ askData 1 index s = ([s.sn.counts.released, s.sn.counts.strays, s.sn.counts.lost, s.sn.counts.removed,
        s.sn.counts.surplus, s.sn.counts.answered, s.sn.counts.rewashes, s.sn.counts.rejects, s.li.lineDrops,
        s.li.receiveErrors][index.toNat]?).map wordOctets
    ∧ (∀ r, s.zq.queue[index.toNat]? = some r → askData 2 index s = some (record r))
    ∧ (∀ e, s.zq.expected[index.toNat]? = some e → askData 3 index s
        = some ([e.upstream.setWidth 8, e.serial] ++ (record e.record).take 7 ++ (record e.record).drop 8))
    ∧ (∀ e, s.cl.calls[index.toNat]? = some e → askData 4 index s
        = some ([e.key.station.setWidth 8, e.key.serial] ++ since (some e.lastHeard)))
    ∧ (∀ n, s.nt.entries[index.toNat]? = some n → askData 5 index s
        = some ([n.zone.setWidth 8, if n.presence = .present then 1 else 0] ++ since n.lastHeard
            ++ match n.last with
              | some b => [b.service, b.flags, b.free, b.queue, b.expected, b.waited]
              | none => [0, 0, 0, 0, 0, 0]))
    ∧ (∀ i, itemOfNumber index.toNat = some i →
        askData 6 index s = some (wordOctets ((itemValue s.ss.running i).getD 65535)))
    ∧ (s.zq.queue.length ≤ index.toNat → askData 2 index s = none)
    ∧ (s.zq.expected.length ≤ index.toNat → askData 3 index s = none)
    ∧ (s.cl.calls.length ≤ index.toNat → askData 4 index s = none)
    ∧ (s.nt.entries.length ≤ index.toNat → askData 5 index s = none)
    ∧ (itemOfNumber index.toNat = none → askData 6 index s = none)
    ∧ (QueueOk s → ∀ topic data, askData topic index s = some data → data.length ≤ 25)

/-- ASK RESTART from a panel places its REPLY, and the REMOTE reset comes when that REPLY leaves the list, acknowledged,
held or failed; with no room for the REPLY it comes at once. From any other source it is answered ACK and no reset comes. A REMOTE
reset leaves what a PIN reset leaves, but for its cause. -/
def Obligations.RestartResetsTheNode : Prop :=
  (∀ (source target : Addr) (index : Byte) (s : State), TakenAt target s → FromOther source s →
    let reply : Frame := { kind := .reply, source := target, target := source,
                           body := [7, index, 0] ++ List.replicate 25 0 }
    (source ≠ 61 → source ≠ 62 →
      exec (.askRestart source target index) s = .next (driveSlot .ack (frameHeard s)))
    ∧ (source = 61 ∨ source = 62 → s.li.tx.length < 8 →
      exec (.askRestart source target index) s = .next (driveSlot .ack
        { frameHeard s with li := { (frameHeard s).li with tx := s.li.tx ++ [freshEntry reply] } }))
    ∧ (source = 61 ∨ source = 62 → 8 ≤ s.li.tx.length →
      ∃ p, exec .pinReset s = .next p
        ∧ exec (.askRestart source target index) s = .next { p with sn := { p.sn with resetCause := .remote } }))
  ∧ ∀ (s : State) (before : List TxEntry) (e : TxEntry) (after : List TxEntry) (ack hold : Bool), Awake s →
    s.li.tx = before ++ e :: after → (∀ x ∈ before, x.sending = false) → e.sending = true →
    e.frame.kind = .reply → e.frame.body.head? = some 7 → e.frame.target ≠ 0 →
    ack = true ∨ hold = true ∨ (e.replacement = none ∧ e.attempts = 7) →
    ∃ p, exec .pinReset s = .next p
      ∧ exec (.replySlotRead ack hold) s = .next { p with sn := { p.sn with resetCause := .remote } }

/-! ## The head at the exit -/

/-- EX offers the head exactly when it is at the exit of a node in service that is not halted, the exit is CLOSED with
no hold-off, and the outlet's zone is PRESENT and shows SERVING, not halted and a free place. The offer takes the next
serial, prepares the head by its role (the freeze, the judgement, the binding), and places the PASS of the prepared
record; with the transmit list full the offer has failed at once. (The place of this test among the tests of an event is
the model's choice, log entry 6; so is that a SPUR clears the bound call of a head that is not EMPTY, log entry 27.) -/
def Obligations.OfferPreparesTheHead : Prop :=
  ∀ (s : State) (head : RackRecord) (rest : List RackRecord) (o : Outlet) (z : Addr),
    configured s = true → s.zq.queue = head :: rest → headOutlet s = some o → outletZone s.ss.running o = some z →
    let ready := s.zq.eyeX = true ∧ inService s = true ∧ halted s = false ∧ s.ex.exit = .closed
      ∧ s.ex.holdOff = none
      ∧ ∃ n b, neighbour? s z = some n ∧ n.presence = .present ∧ n.last = some b ∧ b.service = 2
          ∧ b.flags.getLsbD 0 = false ∧ b.free ≠ 0
    let required := itemNat s.ss.running .requiredCredit
    let washed := { head with washes := if head.washes < 3 then head.washes + 1 else 3 }
    let prepared : RackRecord := match role s with
      | .wash => { head with results := head.results.map fun e =>
          if e.verdict = .pending then
            { e with verdict := if e.faultSeen then .probeLost else if required ≤ e.credit then .met else .short }
          else e }
      | .sort => match s.sl.judgement with
        | some j => if j.applied then head else match j.outlet with
          | .one => { washed with content := .clean }
          | .two => { washed with content := .soiled, results := [] }
          | .three => { washed with content := .reject }
        | none => head
      | .spur => { head with bound := (spurChoice s head).2 }
      | .feed | .merge | .load | .unload => head
    (¬ ready → testOffer s = s)
    ∧ (ready →
        (testOffer s).zq.expected = s.zq.expected ∧ (testOffer s).zq.queue.tail = rest
        ∧ (testOffer s).ex.lastSerial = s.ex.lastSerial + 1
        ∧ (role s = .sort → ∀ j, s.sl.judgement = some j →
            (testOffer s).sl.judgement = some { j with applied := true }
            ∧ (testOffer s).sn.counts = (if j.applied then s.sn.counts else match j.outlet with
                | .one => s.sn.counts
                | .two => { s.sn.counts with rewashes := s.sn.counts.rewashes + 1 }
                | .three => { s.sn.counts with rejects := s.sn.counts.rejects + 1 }))
        ∧ (8 ≤ s.li.tx.length →
            (testOffer s).ex =
              { s.ex with
                exit := .closed, outlet := none, serial := none, lastSerial := s.ex.lastSerial + 1,
                withdrawn := false, travel := none, release := none, gate := false,
                holdOff := some { start := s.tb, duration := 1000 }, holdOffZone := none })
        ∧ (s.li.tx.length ≤ 6 →
            (testOffer s).zq = { s.zq with queue := prepared :: rest }
            ∧ (testOffer s).ex =
              { s.ex with
                exit := .offering, outlet := some o, serial := some (s.ex.lastSerial + 1),
                lastSerial := s.ex.lastSerial + 1, withdrawn := false }
            ∧ (role s = .spur → (testOffer s).cl = { s.cl with offerCall := (spurChoice s head).2 })
            ∧ freshEntry (ownFrame s .pass z (passBody (s.ex.lastSerial + 1) prepared)) ∈ (testOffer s).li.tx))

/-- The judgement of a SORT zone's head as it comes to the exit. The head passes when its content is not UNKNOWN and its
results hold a MET for every required stage, and fails in every other case; a pass names CLEAN, and a failure REWASH while
the smaller of washes + 1 and 3 is below maximum passes and REJECT otherwise. -/
def Obligations.HeadIsJudgedAtTheSort : Prop :=
  ∀ (s : State) (head : RackRecord) (rest : List RackRecord), InUse s → role s = .sort → s.zq.queue = head :: rest →
    s.sl.judgement = none →
    ∃ t j, exec .exitEyeBlocked s = .next t ∧ t.sl.judgement = some j
      ∧ (j.outcome = .pass ↔ head.content ≠ .unknown
          ∧ ∀ k, 1 ≤ k → k ≤ 4 → (itemNat s.ss.running .requiredStages).testBit (k - 1) = true →
              ∃ e ∈ head.results, e.stage = k ∧ e.verdict = .met)
      ∧ (j.outcome = .pass → j.outlet = .one)
      ∧ (j.outcome = .fail → min (head.washes + 1) 3 < itemNat s.ss.running .maximumPasses → j.outlet = .two)
      ∧ (j.outcome = .fail → itemNat s.ss.running .maximumPasses ≤ min (head.washes + 1) 3 → j.outlet = .three)

/-- A judgement stands while its head waits: no command but a clear exit eye and a reset ends it, and none changes the
outcome or the outlet it names or clears its applied flag. (After a reset the queue is empty.) -/
def Obligations.JudgementStandsWhileTheHeadWaits : Prop :=
  ∀ (c : Instr) (j : Judgement) (s t : State), exec c s = .next t → c ≠ .exitEyeClear → t.zq.queue ≠ [] →
    s.sl.judgement = some j →
    ∃ applied, t.sl.judgement = some { j with applied := applied } ∧ (j.applied = true → applied = true)

/-- A SPUR's choice for its head: ONWARD for a head that is not EMPTY, with no call of its own station, with a downstream
station's call older than the first of its own, or with the station's zone not ready; otherwise STATION, for that first
call. -/
def Obligations.SpurChoosesTheOutlet : Prop :=
  ∀ (s : State) (head : RackRecord),
    let own := fun (e : CallEntry) => runningStation s.ss.running = some e.key.station
    let downstream := fun (e : CallEntry) => e.key.station ≠ 0
      ∧ (itemNat s.ss.running .downstreamStations).testBit (e.key.station.toNat - 1) = true
    let ready := ∃ z n b, outletZone s.ss.running .two = some z ∧ neighbour? s z = some n ∧ n.presence = .present
      ∧ n.last = some b ∧ b.service = 2 ∧ b.flags.getLsbD 0 = false ∧ b.free ≠ 0
    (head.content ≠ .empty → spurChoice s head = (.one, none))
    ∧ ((∀ e ∈ s.cl.calls, ¬ own e) → spurChoice s head = (.one, none))
    ∧ ∀ older k later, s.cl.calls = older ++ k :: later → own k → (∀ e ∈ older, ¬ own e) →
      ((∃ e ∈ older, downstream e) → spurChoice s head = (.one, none))
      ∧ (¬ ready → spurChoice s head = (.one, none))
      ∧ (head.content = .empty → (∀ e ∈ older, ¬ downstream e) → ready → spurChoice s head = (.two, some k.key))

/-- The free places of a zone are capacity less queue length less expected count, and 0 when that is below 0; they are a
field of the node's STATE, and a node offers only to a zone whose STATE shows 1 or more. -/
def Obligations.FreePlacesOfAZone : Prop :=
  ∀ s : State,
    (s.zq.queue.length + s.zq.expected.length ≤ capacity s →
      freePlaces s + s.zq.queue.length + s.zq.expected.length = capacity s)
    ∧ (capacity s < s.zq.queue.length + s.zq.expected.length → freePlaces s = 0)
    ∧ (ownBody s).free = BitVec.ofNat 8 (freePlaces s)
    ∧ (testOffer s ≠ s → ∃ o z n b, headOutlet s = some o ∧ outletZone s.ss.running o = some z
        ∧ neighbour? s z = some n ∧ n.last = some b ∧ 1 ≤ b.free.toNat)

/-! ## The whole machine -/

/-- The tests that follow an event touch only what they are for: of ZQ the head's record, of EX the offer, of DC the
drive and its counters, of NT the period and the announced body, of SL the judgement, of CL the calls, of SN the quiet
timer and the counts of the sort; an UNCONFIGURED node makes none. (Which tests follow an event, and in what order, is
the model's choice, log entry 6.) -/
def Obligations.TestsOfAnEventChangeNoMore : Prop :=
  ∀ s : State,
    (configured s = false → settle s = s)
    ∧ let t := settle s
      t = { s with
        li := { t.li with line := s.li.line, recessiveRun := s.li.recessiveRun, receiveErrors := s.li.receiveErrors,
                          awaitRelease := s.li.awaitRelease, slot := s.li.slot, aborting := s.li.aborting },
        zq := { s.zq with queue := t.zq.queue },
        ex := { t.ex with position := s.ex.position, settled := s.ex.settled },
        dc := { t.dc with runOn := s.dc.runOn },
        nt := { t.nt with entries := s.nt.entries },
        sl := t.sl,
        cl := { t.cl with stationOpen := s.cl.stationOpen },
        sn := { s.sn with quiet := t.sn.quiet, counts := { s.sn.counts with rewashes := t.sn.counts.rewashes,
                                                                            rejects := t.sn.counts.rejects } } }
      ∧ t.zq.queue.length = s.zq.queue.length ∧ t.zq.queue.drop 1 = s.zq.queue.drop 1
      ∧ t.zq.queue.map (·.tag) = s.zq.queue.map (·.tag) ∧ t.zq.queue.map (·.origin) = s.zq.queue.map (·.origin)

/-- The bits of a frame on the line. Insertion leaves no five equal bits in a row, a receiver recovers the frame's bits from
them, the frame so received has no receive error when its length is one its kind allows, and two frames with the same bits
are the same frame. -/
def Obligations.FramesSurviveTheLine : Prop :=
  (∀ l : List Bool, removeBits (insertBits l) = .bits l)
  ∧ (∀ (l a b : List Bool) (x : Bool), insertBits l ≠ a ++ List.replicate 5 x ++ b)
  ∧ (∀ f : Frame, f.body.length ≤ 28 → lengthAllowed f.kind f.body.length = true →
      hasReceiveError { frame := f, length := lengthField f, check := crc (checkedBits f (lengthField f)) } = false)
  ∧ ∀ f g : Frame, f.body.length ≤ 28 → g.body.length ≤ 28 → wireBits f = wireBits g → f = g

/-- The reset state meets every condition that the statements below say each step keeps. -/
def Obligations.ResetStateMeetsTheInvariants : Prop :=
  TransmitOk State.reset.li ∧ ExitOk State.reset ∧ SafeMovement State.reset ∧ Settled State.reset
    ∧ FaultsOk State.reset ∧ UnconfiguredOk State.reset ∧ StoreOk State.reset ∧ QueueOk State.reset
    ∧ CallsOk State.reset ∧ WindowsOk State.reset ∧ StopSetOk State.reset

/-- Every step keeps LI's transmit list within its bounds. -/
def Obligations.StepKeepsTheTransmitList : Prop :=
  ∀ s t : State, TransmitOk s.li → step s = .next t → TransmitOk t.li

/-- Every step keeps the parts of the exit in agreement; and with the drive as R59 wants it, that makes the movement of
racks safe. -/
def Obligations.StepKeepsTheExitAndMovementIsSafe : Prop :=
  (∀ s t : State, ExitOk s → step s = .next t → ExitOk t)
  ∧ ∀ s : State, ExitOk s → DriveOk s → SafeMovement s

/-- Every step leaves the judgement, the quiet timer, the station's calls, the offer, the drive and the announced STATE
as the state asks. (Which tests follow an event, and in what order, is the model's choice, log entry 6.) -/
def Obligations.StepKeepsTheNodeSettled : Prop :=
  ∀ s t : State, Settled s → step s = .next t → Settled t

/-- Every step keeps a node FAULTED exactly while a fault of the four kinds is latched, and keeps an UNCONFIGURED node
without configuration, records, faults and traffic, for a transmit list within its bounds, which every step keeps as well. -/
def Obligations.StepKeepsFaultsAndUnconfiguredNodes : Prop :=
  ∀ s t : State, FaultsOk s ∧ UnconfiguredOk s ∧ TransmitOk s.li → step s = .next t →
    FaultsOk t ∧ UnconfiguredOk t ∧ TransmitOk t.li

/-- Every step keeps the setup values within their ranges, the node configured exactly when its running configuration is
valid, and the queue, the expected list and their records within theirs. -/
def Obligations.StepKeepsStoreAndQueue : Prop :=
  ∀ s t : State, StoreOk s ∧ QueueOk s → step s = .next t → StoreOk t ∧ QueueOk t

/-- Every step keeps the call list within its bounds with no key twice, at a LOAD as at a SPUR. -/
def Obligations.StepKeepsTheCallList : Prop :=
  ∀ s t : State, CallsOk s ∧ NeedOk s ∧ StoreOk s → step s = .next t → CallsOk t ∧ NeedOk t ∧ StoreOk t

/-- Every step keeps the arrival windows running exactly while the node is not halted, and the stop set free of repeats and
of addresses that can never leave it. -/
def Obligations.StepKeepsWindowsAndStopSet : Prop :=
  ∀ s t : State, WindowsOk s ∧ StopSetOk s → step s = .next t → WindowsOk t ∧ StopSetOk t

/-- What moves the service state and the setup values. Apart from a reset, which decides the service state by the validity
check and leaves no rack recorded, a node becomes SERVING only from RECOVERING at the end of its quiet timer, becomes FAULTED
only from service with a fault of the four kinds latched, and becomes RECOVERING only with none of the four latched; the
running configuration changes only at a reset, and the store only at the end of a write cycle. -/
def Obligations.OnlyTheseChangeServiceAndSetup : Prop :=
  ∀ (c : Instr) (s t : State), exec c s = .next t →
    let wasReset := t.zq.queue = [] ∧ t.zq.expected = [] ∧ t.dc.drive = .off ∧ t.ex.exit = .closed ∧ t.ex.gate = false
      ∧ t.sn.faults = Faults.clear ∧ t.ss.running = runningItems s.ss.store
      ∧ t.sn.service = (if validityCheck (loadedItems s.ss.store) = none then .recovering else .unconfigured)
    (t.sn.service ≠ s.sn.service → wasReset
      ∨ (c = .quietTimerExpiry ∧ s.sn.service = .recovering ∧ t.sn.service = .serving)
      ∨ (inService s = true ∧ t.sn.service = .faulted ∧ serviceFault t.sn.faults = true)
      ∨ (s.sn.service ≠ .unconfigured ∧ t.sn.service = .recovering ∧ serviceFault t.sn.faults = false))
    ∧ (t.ss.running ≠ s.ss.running → wasReset)
    ∧ (c ≠ .writeCycleCompletion → t.ss.store = s.ss.store)
end

