-- ==== Sys2Proof/Laws/Lists.lean ====
section
/-! SUPPORT. Laws/Lists.lean: lists written as what stands before an entry, the entry, and what stands after it, for the
operations that find, change or remove an entry by its place. -/

namespace Sys2Proof.Laws

theorem findIdx?_middle {α : Type} {p : α → Bool} {before : List α} {e : α} (after : List α)
    (hb : ∀ x ∈ before, p x = false) (he : p e = true) :
    (before ++ e :: after).findIdx? p = some before.length := by
  induction before with
  | nil => simp [List.findIdx?_cons, he]
  | cons x rest ih =>
    have hx : p x = false := hb x (by simp)
    have := ih fun y hy => hb y (by simp [hy])
    simp [List.findIdx?_cons, hx, this]

theorem findIdx?_absent {α : Type} {p : α → Bool} {l : List α} (h : ∀ x ∈ l, p x = false) :
    l.findIdx? p = none := by
  simpa using h

theorem eraseIdx_middle {α : Type} (before : List α) (e : α) (after : List α) :
    (before ++ e :: after).eraseIdx before.length = before ++ after := by
  induction before <;> simp_all

theorem getElem?_middle {α : Type} (before : List α) (e : α) (after : List α) :
    (before ++ e :: after)[before.length]? = some e := by
  simp

theorem modify_middle {α : Type} (f : α → α) (before : List α) (e : α) (after : List α) :
    (before ++ e :: after).modify before.length f = before ++ f e :: after := by
  induction before <;> simp_all

end Sys2Proof.Laws
end

