-- ==== Sys2Proof/Laws/State.lean ====
section
/-! SUPPORT. Laws/State.lean: for each operation on the whole state, the parts of the state that it leaves as they were, so
that no later proof has to unfold the operation to see it. -/

namespace Sys2Proof.Machine

@[simp] theorem reachExpiry_frame (t : Timer) (s : State) :
    (reachExpiry t s).resetn = s.resetn ∧ (reachExpiry t s).li = s.li ∧ (reachExpiry t s).zq = s.zq
    ∧ (reachExpiry t s).ex = s.ex ∧ (reachExpiry t s).dc = s.dc ∧ (reachExpiry t s).nt = s.nt
    ∧ (reachExpiry t s).su = s.su ∧ (reachExpiry t s).ma = s.ma ∧ (reachExpiry t s).sl = s.sl
    ∧ (reachExpiry t s).cl = s.cl ∧ (reachExpiry t s).sn = s.sn ∧ (reachExpiry t s).ss = s.ss
    ∧ (reachExpiry t s).pending = s.pending := by
  unfold reachExpiry; split <;> simp

@[simp] theorem sendFrame_frame (f : Frame) (s : State) :
    (sendFrame f s).tb = s.tb ∧ (sendFrame f s).resetn = s.resetn ∧ (sendFrame f s).zq = s.zq
    ∧ (sendFrame f s).ex = s.ex ∧ (sendFrame f s).dc = s.dc ∧ (sendFrame f s).nt = s.nt
    ∧ (sendFrame f s).su = s.su ∧ (sendFrame f s).ma = s.ma ∧ (sendFrame f s).sl = s.sl
    ∧ (sendFrame f s).cl = s.cl ∧ (sendFrame f s).sn = s.sn ∧ (sendFrame f s).ss = s.ss
    ∧ (sendFrame f s).pending = s.pending := by
  unfold sendFrame; split <;> simp

@[simp] theorem sendNotice_frame (k : NoticeKind) (d : Byte) (t v : Word16) (s : State) :
    (sendNotice k d t v s).tb = s.tb ∧ (sendNotice k d t v s).resetn = s.resetn
    ∧ (sendNotice k d t v s).zq = s.zq ∧ (sendNotice k d t v s).ex = s.ex ∧ (sendNotice k d t v s).dc = s.dc
    ∧ (sendNotice k d t v s).nt = s.nt ∧ (sendNotice k d t v s).su = s.su ∧ (sendNotice k d t v s).ma = s.ma
    ∧ (sendNotice k d t v s).sl = s.sl ∧ (sendNotice k d t v s).cl = s.cl ∧ (sendNotice k d t v s).sn = s.sn
    ∧ (sendNotice k d t v s).ss = s.ss ∧ (sendNotice k d t v s).pending = s.pending := by
  simp [sendNotice]

@[simp] theorem placeState_frame (s : State) :
    (placeState s).tb = s.tb ∧ (placeState s).resetn = s.resetn ∧ (placeState s).zq = s.zq
    ∧ (placeState s).ex = s.ex ∧ (placeState s).dc = s.dc ∧ (placeState s).su = s.su ∧ (placeState s).ma = s.ma
    ∧ (placeState s).sl = s.sl ∧ (placeState s).cl = s.cl ∧ (placeState s).sn = s.sn ∧ (placeState s).ss = s.ss
    ∧ (placeState s).pending = s.pending := by
  simp [placeState]

@[simp] theorem announce_frame (s : State) :
    (announce s).tb = s.tb ∧ (announce s).resetn = s.resetn ∧ (announce s).zq = s.zq ∧ (announce s).ex = s.ex
    ∧ (announce s).dc = s.dc ∧ (announce s).su = s.su ∧ (announce s).ma = s.ma ∧ (announce s).sl = s.sl
    ∧ (announce s).cl = s.cl ∧ (announce s).sn = s.sn ∧ (announce s).ss = s.ss
    ∧ (announce s).pending = s.pending := by
  unfold announce; split <;> simp

@[simp] theorem setDrive_frame (d : DriveState) (s : State) :
    (setDrive d s).tb = s.tb ∧ (setDrive d s).resetn = s.resetn ∧ (setDrive d s).li = s.li
    ∧ (setDrive d s).zq = s.zq ∧ (setDrive d s).ex = s.ex ∧ (setDrive d s).nt = s.nt ∧ (setDrive d s).su = s.su
    ∧ (setDrive d s).ma = s.ma ∧ (setDrive d s).sl = s.sl ∧ (setDrive d s).cl = s.cl ∧ (setDrive d s).sn = s.sn
    ∧ (setDrive d s).ss = s.ss ∧ (setDrive d s).pending = s.pending := by
  unfold setDrive; split <;> simp

@[simp] theorem testDrive_frame (s : State) :
    (testDrive s).tb = s.tb ∧ (testDrive s).resetn = s.resetn ∧ (testDrive s).li = s.li
    ∧ (testDrive s).zq = s.zq ∧ (testDrive s).ex = s.ex ∧ (testDrive s).nt = s.nt ∧ (testDrive s).su = s.su
    ∧ (testDrive s).ma = s.ma ∧ (testDrive s).sl = s.sl ∧ (testDrive s).cl = s.cl ∧ (testDrive s).sn = s.sn
    ∧ (testDrive s).ss = s.ss ∧ (testDrive s).pending = s.pending := by
  simp [testDrive]

@[simp] theorem cancelRunOn_frame (s : State) :
    (cancelRunOn s).tb = s.tb ∧ (cancelRunOn s).resetn = s.resetn ∧ (cancelRunOn s).li = s.li
    ∧ (cancelRunOn s).zq = s.zq ∧ (cancelRunOn s).ex = s.ex ∧ (cancelRunOn s).nt = s.nt
    ∧ (cancelRunOn s).su = s.su ∧ (cancelRunOn s).ma = s.ma ∧ (cancelRunOn s).sl = s.sl
    ∧ (cancelRunOn s).cl = s.cl ∧ (cancelRunOn s).sn = s.sn ∧ (cancelRunOn s).ss = s.ss
    ∧ (cancelRunOn s).pending = s.pending := by
  simp [cancelRunOn]

@[simp] theorem startRunOnIfEmpty_frame (s : State) :
    (startRunOnIfEmpty s).tb = s.tb ∧ (startRunOnIfEmpty s).resetn = s.resetn ∧ (startRunOnIfEmpty s).li = s.li
    ∧ (startRunOnIfEmpty s).zq = s.zq ∧ (startRunOnIfEmpty s).ex = s.ex ∧ (startRunOnIfEmpty s).nt = s.nt
    ∧ (startRunOnIfEmpty s).su = s.su ∧ (startRunOnIfEmpty s).ma = s.ma ∧ (startRunOnIfEmpty s).sl = s.sl
    ∧ (startRunOnIfEmpty s).cl = s.cl ∧ (startRunOnIfEmpty s).sn = s.sn ∧ (startRunOnIfEmpty s).ss = s.ss
    ∧ (startRunOnIfEmpty s).pending = s.pending := by
  unfold startRunOnIfEmpty; split <;> simp

@[simp] theorem cancelQuiet_frame (s : State) :
    (cancelQuiet s).tb = s.tb ∧ (cancelQuiet s).resetn = s.resetn ∧ (cancelQuiet s).li = s.li
    ∧ (cancelQuiet s).zq = s.zq ∧ (cancelQuiet s).ex = s.ex ∧ (cancelQuiet s).dc = s.dc
    ∧ (cancelQuiet s).nt = s.nt ∧ (cancelQuiet s).su = s.su ∧ (cancelQuiet s).ma = s.ma
    ∧ (cancelQuiet s).sl = s.sl ∧ (cancelQuiet s).cl = s.cl ∧ (cancelQuiet s).ss = s.ss
    ∧ (cancelQuiet s).pending = s.pending := by
  simp [cancelQuiet]

@[simp] theorem testQuiet_frame (s : State) :
    (testQuiet s).tb = s.tb ∧ (testQuiet s).resetn = s.resetn ∧ (testQuiet s).li = s.li
    ∧ (testQuiet s).zq = s.zq ∧ (testQuiet s).ex = s.ex ∧ (testQuiet s).dc = s.dc ∧ (testQuiet s).nt = s.nt
    ∧ (testQuiet s).su = s.su ∧ (testQuiet s).ma = s.ma ∧ (testQuiet s).sl = s.sl ∧ (testQuiet s).cl = s.cl
    ∧ (testQuiet s).ss = s.ss ∧ (testQuiet s).pending = s.pending := by
  unfold testQuiet; (repeat' split) <;> simp

@[simp] theorem changeHead_frame (f : RackRecord → RackRecord) (s : State) :
    (changeHead f s).tb = s.tb ∧ (changeHead f s).resetn = s.resetn ∧ (changeHead f s).li = s.li
    ∧ (changeHead f s).ex = s.ex ∧ (changeHead f s).dc = s.dc ∧ (changeHead f s).nt = s.nt
    ∧ (changeHead f s).su = s.su ∧ (changeHead f s).ma = s.ma ∧ (changeHead f s).sl = s.sl
    ∧ (changeHead f s).cl = s.cl ∧ (changeHead f s).sn = s.sn ∧ (changeHead f s).ss = s.ss
    ∧ (changeHead f s).pending = s.pending := by
  unfold changeHead; split <;> simp

@[simp] theorem unbindOffer_frame (gone : Bool) (s : State) :
    (unbindOffer gone s).tb = s.tb ∧ (unbindOffer gone s).resetn = s.resetn ∧ (unbindOffer gone s).li = s.li
    ∧ (unbindOffer gone s).ex = s.ex ∧ (unbindOffer gone s).dc = s.dc ∧ (unbindOffer gone s).nt = s.nt
    ∧ (unbindOffer gone s).su = s.su ∧ (unbindOffer gone s).ma = s.ma ∧ (unbindOffer gone s).sl = s.sl
    ∧ (unbindOffer gone s).sn = s.sn ∧ (unbindOffer gone s).ss = s.ss ∧ (unbindOffer gone s).pending = s.pending := by
  unfold unbindOffer; (repeat' split) <;> simp

@[simp] theorem endOffer_frame (s : State) :
    (endOffer s).tb = s.tb ∧ (endOffer s).resetn = s.resetn ∧ (endOffer s).li = s.li ∧ (endOffer s).zq = s.zq
    ∧ (endOffer s).dc = s.dc ∧ (endOffer s).nt = s.nt ∧ (endOffer s).su = s.su ∧ (endOffer s).ma = s.ma
    ∧ (endOffer s).sl = s.sl ∧ (endOffer s).cl = s.cl ∧ (endOffer s).sn = s.sn ∧ (endOffer s).ss = s.ss
    ∧ (endOffer s).pending = s.pending := by
  simp [endOffer]

@[simp] theorem closeExit_frame (s : State) :
    (closeExit s).tb = s.tb ∧ (closeExit s).resetn = s.resetn ∧ (closeExit s).li = s.li
    ∧ (closeExit s).zq = s.zq ∧ (closeExit s).dc = s.dc ∧ (closeExit s).nt = s.nt ∧ (closeExit s).su = s.su
    ∧ (closeExit s).ma = s.ma ∧ (closeExit s).sl = s.sl ∧ (closeExit s).cl = s.cl ∧ (closeExit s).sn = s.sn
    ∧ (closeExit s).ss = s.ss ∧ (closeExit s).pending = s.pending := by
  simp [closeExit]

@[simp] theorem recallOffer_frame (gone : Bool) (s : State) :
    (recallOffer gone s).tb = s.tb ∧ (recallOffer gone s).resetn = s.resetn ∧ (recallOffer gone s).dc = s.dc
    ∧ (recallOffer gone s).nt = s.nt ∧ (recallOffer gone s).su = s.su ∧ (recallOffer gone s).ma = s.ma
    ∧ (recallOffer gone s).sl = s.sl ∧ (recallOffer gone s).sn = s.sn ∧ (recallOffer gone s).ss = s.ss
    ∧ (recallOffer gone s).pending = s.pending := by
  unfold recallOffer; split <;> simp

@[simp] theorem stopExit_frame (s : State) :
    (stopExit s).tb = s.tb ∧ (stopExit s).resetn = s.resetn ∧ (stopExit s).dc = s.dc ∧ (stopExit s).nt = s.nt
    ∧ (stopExit s).su = s.su ∧ (stopExit s).ma = s.ma ∧ (stopExit s).sl = s.sl ∧ (stopExit s).sn = s.sn
    ∧ (stopExit s).ss = s.ss ∧ (stopExit s).pending = s.pending := by
  unfold stopExit; split <;> simp

@[simp] theorem setWindows_frame (w : Option Timer) (s : State) :
    (setWindows w s).tb = s.tb ∧ (setWindows w s).resetn = s.resetn ∧ (setWindows w s).li = s.li
    ∧ (setWindows w s).ex = s.ex ∧ (setWindows w s).dc = s.dc ∧ (setWindows w s).nt = s.nt
    ∧ (setWindows w s).su = s.su ∧ (setWindows w s).ma = s.ma ∧ (setWindows w s).sl = s.sl
    ∧ (setWindows w s).cl = s.cl ∧ (setWindows w s).sn = s.sn ∧ (setWindows w s).ss = s.ss
    ∧ (setWindows w s).pending = s.pending := by
  simp [setWindows]

@[simp] theorem haltBegins_frame (s : State) :
    (haltBegins s).tb = s.tb ∧ (haltBegins s).resetn = s.resetn ∧ (haltBegins s).nt = s.nt
    ∧ (haltBegins s).su = s.su ∧ (haltBegins s).ma = s.ma ∧ (haltBegins s).sl = s.sl ∧ (haltBegins s).ss = s.ss
    ∧ (haltBegins s).pending = s.pending := by
  simp [haltBegins]

@[simp] theorem haltEnds_frame (s : State) :
    (haltEnds s).tb = s.tb ∧ (haltEnds s).resetn = s.resetn ∧ (haltEnds s).li = s.li ∧ (haltEnds s).ex = s.ex
    ∧ (haltEnds s).dc = s.dc ∧ (haltEnds s).nt = s.nt ∧ (haltEnds s).su = s.su ∧ (haltEnds s).ma = s.ma
    ∧ (haltEnds s).sl = s.sl ∧ (haltEnds s).cl = s.cl ∧ (haltEnds s).sn = s.sn ∧ (haltEnds s).ss = s.ss
    ∧ (haltEnds s).pending = s.pending := by
  simp [haltEnds]

@[simp] theorem enterFaulted_frame (s : State) :
    (enterFaulted s).tb = s.tb ∧ (enterFaulted s).resetn = s.resetn ∧ (enterFaulted s).su = s.su
    ∧ (enterFaulted s).ma = s.ma ∧ (enterFaulted s).sl = s.sl ∧ (enterFaulted s).ss = s.ss
    ∧ (enterFaulted s).pending = s.pending := by
  simp [enterFaulted]

@[simp] theorem latchFault_frame (k : FaultKind) (d : Byte) (t v : Word16) (s : State) :
    (latchFault k d t v s).tb = s.tb ∧ (latchFault k d t v s).resetn = s.resetn
    ∧ (latchFault k d t v s).su = s.su ∧ (latchFault k d t v s).ma = s.ma ∧ (latchFault k d t v s).sl = s.sl
    ∧ (latchFault k d t v s).ss = s.ss ∧ (latchFault k d t v s).pending = s.pending := by
  simp only [latchFault]; (repeat' split) <;> simp

@[simp] theorem count_frame (f : Counts → Counts) (s : State) :
    (count f s).tb = s.tb ∧ (count f s).resetn = s.resetn ∧ (count f s).li = s.li ∧ (count f s).zq = s.zq
    ∧ (count f s).ex = s.ex ∧ (count f s).dc = s.dc ∧ (count f s).nt = s.nt ∧ (count f s).su = s.su
    ∧ (count f s).ma = s.ma ∧ (count f s).sl = s.sl ∧ (count f s).cl = s.cl ∧ (count f s).ss = s.ss
    ∧ (count f s).pending = s.pending := by
  simp [count]

@[simp] theorem joinQueue_frame (r : RackRecord) (s : State) :
    (joinQueue r s).tb = s.tb ∧ (joinQueue r s).resetn = s.resetn ∧ (joinQueue r s).li = s.li
    ∧ (joinQueue r s).ex = s.ex ∧ (joinQueue r s).nt = s.nt ∧ (joinQueue r s).su = s.su
    ∧ (joinQueue r s).ma = s.ma ∧ (joinQueue r s).sl = s.sl ∧ (joinQueue r s).cl = s.cl
    ∧ (joinQueue r s).ss = s.ss ∧ (joinQueue r s).pending = s.pending := by
  simp [joinQueue]

@[simp] theorem makeStray_frame (d : Byte) (v : Word16) (s : State) :
    (makeStray d v s).tb = s.tb ∧ (makeStray d v s).resetn = s.resetn ∧ (makeStray d v s).ex = s.ex
    ∧ (makeStray d v s).nt = s.nt ∧ (makeStray d v s).su = s.su ∧ (makeStray d v s).ma = s.ma
    ∧ (makeStray d v s).sl = s.sl ∧ (makeStray d v s).cl = s.cl ∧ (makeStray d v s).ss = s.ss
    ∧ (makeStray d v s).pending = s.pending := by
  simp [makeStray]

@[simp] theorem leaveHead_frame (s : State) :
    (leaveHead s).tb = s.tb ∧ (leaveHead s).resetn = s.resetn ∧ (leaveHead s).li = s.li
    ∧ (leaveHead s).ex = s.ex ∧ (leaveHead s).nt = s.nt ∧ (leaveHead s).su = s.su ∧ (leaveHead s).ma = s.ma
    ∧ (leaveHead s).cl = s.cl ∧ (leaveHead s).sn = s.sn ∧ (leaveHead s).ss = s.ss
    ∧ (leaveHead s).pending = s.pending := by
  simp only [leaveHead]; (repeat' split) <;> simp

@[simp] theorem dropExpected_frame (n : Nat) (s : State) :
    (dropExpected n s).tb = s.tb ∧ (dropExpected n s).resetn = s.resetn ∧ (dropExpected n s).li = s.li
    ∧ (dropExpected n s).ex = s.ex ∧ (dropExpected n s).nt = s.nt ∧ (dropExpected n s).su = s.su
    ∧ (dropExpected n s).ma = s.ma ∧ (dropExpected n s).sl = s.sl ∧ (dropExpected n s).cl = s.cl
    ∧ (dropExpected n s).sn = s.sn ∧ (dropExpected n s).ss = s.ss ∧ (dropExpected n s).pending = s.pending := by
  simp [dropExpected]

@[simp] theorem loseExpected_frame (n : Nat) (s : State) :
    (loseExpected n s).tb = s.tb ∧ (loseExpected n s).resetn = s.resetn ∧ (loseExpected n s).ex = s.ex
    ∧ (loseExpected n s).nt = s.nt ∧ (loseExpected n s).su = s.su ∧ (loseExpected n s).ma = s.ma
    ∧ (loseExpected n s).sl = s.sl ∧ (loseExpected n s).cl = s.cl ∧ (loseExpected n s).ss = s.ss
    ∧ (loseExpected n s).pending = s.pending := by
  unfold loseExpected; split <;> simp

@[simp] theorem formJudgement_frame (s : State) :
    (formJudgement s).tb = s.tb ∧ (formJudgement s).resetn = s.resetn ∧ (formJudgement s).li = s.li
    ∧ (formJudgement s).zq = s.zq ∧ (formJudgement s).ex = s.ex ∧ (formJudgement s).dc = s.dc
    ∧ (formJudgement s).nt = s.nt ∧ (formJudgement s).su = s.su ∧ (formJudgement s).ma = s.ma
    ∧ (formJudgement s).cl = s.cl ∧ (formJudgement s).sn = s.sn ∧ (formJudgement s).ss = s.ss
    ∧ (formJudgement s).pending = s.pending := by
  unfold formJudgement; (repeat' split) <;> simp

@[simp] theorem applyJudgement_frame (s : State) :
    (applyJudgement s).tb = s.tb ∧ (applyJudgement s).resetn = s.resetn ∧ (applyJudgement s).ex = s.ex
    ∧ (applyJudgement s).dc = s.dc ∧ (applyJudgement s).nt = s.nt ∧ (applyJudgement s).su = s.su
    ∧ (applyJudgement s).ma = s.ma ∧ (applyJudgement s).cl = s.cl ∧ (applyJudgement s).ss = s.ss
    ∧ (applyJudgement s).pending = s.pending := by
  unfold applyJudgement; (repeat' split) <;> simp

@[simp] theorem bindHead_frame (c : Option CallKey) (s : State) :
    (bindHead c s).tb = s.tb ∧ (bindHead c s).resetn = s.resetn ∧ (bindHead c s).li = s.li
    ∧ (bindHead c s).ex = s.ex ∧ (bindHead c s).dc = s.dc ∧ (bindHead c s).nt = s.nt ∧ (bindHead c s).su = s.su
    ∧ (bindHead c s).ma = s.ma ∧ (bindHead c s).sl = s.sl ∧ (bindHead c s).sn = s.sn ∧ (bindHead c s).ss = s.ss
    ∧ (bindHead c s).pending = s.pending := by
  simp [bindHead]

@[simp] theorem refuseOffer_frame (z : Option Addr) (s : State) :
    (refuseOffer z s).tb = s.tb ∧ (refuseOffer z s).resetn = s.resetn ∧ (refuseOffer z s).li = s.li
    ∧ (refuseOffer z s).dc = s.dc ∧ (refuseOffer z s).nt = s.nt ∧ (refuseOffer z s).su = s.su
    ∧ (refuseOffer z s).ma = s.ma ∧ (refuseOffer z s).sl = s.sl ∧ (refuseOffer z s).sn = s.sn
    ∧ (refuseOffer z s).ss = s.ss ∧ (refuseOffer z s).pending = s.pending := by
  simp [refuseOffer]

@[simp] theorem prepareHead_frame (s : State) :
    (prepareHead s).tb = s.tb ∧ (prepareHead s).resetn = s.resetn ∧ (prepareHead s).ex = s.ex
    ∧ (prepareHead s).dc = s.dc ∧ (prepareHead s).nt = s.nt ∧ (prepareHead s).su = s.su
    ∧ (prepareHead s).ma = s.ma ∧ (prepareHead s).ss = s.ss ∧ (prepareHead s).pending = s.pending := by
  unfold prepareHead; split <;> simp

@[simp] theorem takeSerial_frame (o : Outlet) (s : State) :
    (takeSerial o s).tb = s.tb ∧ (takeSerial o s).resetn = s.resetn ∧ (takeSerial o s).li = s.li
    ∧ (takeSerial o s).zq = s.zq ∧ (takeSerial o s).dc = s.dc ∧ (takeSerial o s).nt = s.nt
    ∧ (takeSerial o s).su = s.su ∧ (takeSerial o s).ma = s.ma ∧ (takeSerial o s).sl = s.sl
    ∧ (takeSerial o s).cl = s.cl ∧ (takeSerial o s).sn = s.sn ∧ (takeSerial o s).ss = s.ss
    ∧ (takeSerial o s).pending = s.pending := by
  simp [takeSerial]

@[simp] theorem makeOffer_frame (o : Outlet) (z : Addr) (s : State) :
    (makeOffer o z s).tb = s.tb ∧ (makeOffer o z s).resetn = s.resetn ∧ (makeOffer o z s).dc = s.dc
    ∧ (makeOffer o z s).nt = s.nt ∧ (makeOffer o z s).su = s.su ∧ (makeOffer o z s).ma = s.ma
    ∧ (makeOffer o z s).ss = s.ss ∧ (makeOffer o z s).pending = s.pending := by
  simp only [makeOffer]; (repeat' split) <;> simp

@[simp] theorem testOffer_frame (s : State) :
    (testOffer s).tb = s.tb ∧ (testOffer s).resetn = s.resetn ∧ (testOffer s).dc = s.dc
    ∧ (testOffer s).nt = s.nt ∧ (testOffer s).su = s.su ∧ (testOffer s).ma = s.ma ∧ (testOffer s).ss = s.ss
    ∧ (testOffer s).pending = s.pending := by
  unfold testOffer; (repeat' split) <;> simp

@[simp] theorem issueCall_frame (s : State) :
    (issueCall s).tb = s.tb ∧ (issueCall s).resetn = s.resetn ∧ (issueCall s).zq = s.zq
    ∧ (issueCall s).ex = s.ex ∧ (issueCall s).dc = s.dc ∧ (issueCall s).nt = s.nt ∧ (issueCall s).su = s.su
    ∧ (issueCall s).ma = s.ma ∧ (issueCall s).sl = s.sl ∧ (issueCall s).sn = s.sn ∧ (issueCall s).ss = s.ss
    ∧ (issueCall s).pending = s.pending := by
  simp [issueCall]

@[simp] theorem issueCalls_frame (n : Nat) (s : State) :
    (issueCalls n s).tb = s.tb ∧ (issueCalls n s).resetn = s.resetn ∧ (issueCalls n s).zq = s.zq
    ∧ (issueCalls n s).ex = s.ex ∧ (issueCalls n s).dc = s.dc ∧ (issueCalls n s).nt = s.nt
    ∧ (issueCalls n s).su = s.su ∧ (issueCalls n s).ma = s.ma ∧ (issueCalls n s).sl = s.sl
    ∧ (issueCalls n s).sn = s.sn ∧ (issueCalls n s).ss = s.ss ∧ (issueCalls n s).pending = s.pending := by
  induction n generalizing s with
  | zero => simp [issueCalls]
  | succ n ih => unfold issueCalls; split <;> simp [ih]

@[simp] theorem withdrawCall_frame (n : Nat) (s : State) :
    (withdrawCall n s).tb = s.tb ∧ (withdrawCall n s).resetn = s.resetn ∧ (withdrawCall n s).zq = s.zq
    ∧ (withdrawCall n s).ex = s.ex ∧ (withdrawCall n s).dc = s.dc ∧ (withdrawCall n s).nt = s.nt
    ∧ (withdrawCall n s).su = s.su ∧ (withdrawCall n s).ma = s.ma ∧ (withdrawCall n s).sl = s.sl
    ∧ (withdrawCall n s).sn = s.sn ∧ (withdrawCall n s).ss = s.ss ∧ (withdrawCall n s).pending = s.pending := by
  unfold withdrawCall; split <;> simp

@[simp] theorem withdrawExcess_frame (n : Nat) (s : State) :
    (withdrawExcess n s).tb = s.tb ∧ (withdrawExcess n s).resetn = s.resetn ∧ (withdrawExcess n s).zq = s.zq
    ∧ (withdrawExcess n s).ex = s.ex ∧ (withdrawExcess n s).dc = s.dc ∧ (withdrawExcess n s).nt = s.nt
    ∧ (withdrawExcess n s).su = s.su ∧ (withdrawExcess n s).ma = s.ma ∧ (withdrawExcess n s).sl = s.sl
    ∧ (withdrawExcess n s).sn = s.sn ∧ (withdrawExcess n s).ss = s.ss ∧ (withdrawExcess n s).pending = s.pending := by
  induction n generalizing s with
  | zero => simp [withdrawExcess]
  | succ n ih => unfold withdrawExcess; split <;> simp [ih]

@[simp] theorem withdrawAll_frame (n : Nat) (s : State) :
    (withdrawAll n s).tb = s.tb ∧ (withdrawAll n s).resetn = s.resetn ∧ (withdrawAll n s).zq = s.zq
    ∧ (withdrawAll n s).ex = s.ex ∧ (withdrawAll n s).dc = s.dc ∧ (withdrawAll n s).nt = s.nt
    ∧ (withdrawAll n s).su = s.su ∧ (withdrawAll n s).ma = s.ma ∧ (withdrawAll n s).sl = s.sl
    ∧ (withdrawAll n s).sn = s.sn ∧ (withdrawAll n s).ss = s.ss ∧ (withdrawAll n s).pending = s.pending := by
  induction n generalizing s with
  | zero => simp [withdrawAll]
  | succ n ih => unfold withdrawAll; split <;> simp [ih]

@[simp] theorem testNeed_frame (s : State) :
    (testNeed s).tb = s.tb ∧ (testNeed s).resetn = s.resetn ∧ (testNeed s).zq = s.zq ∧ (testNeed s).ex = s.ex
    ∧ (testNeed s).dc = s.dc ∧ (testNeed s).nt = s.nt ∧ (testNeed s).su = s.su ∧ (testNeed s).ma = s.ma
    ∧ (testNeed s).sl = s.sl ∧ (testNeed s).sn = s.sn ∧ (testNeed s).ss = s.ss
    ∧ (testNeed s).pending = s.pending := by
  unfold testNeed; split <;> simp

@[simp] theorem settle_frame (s : State) :
    (settle s).tb = s.tb ∧ (settle s).resetn = s.resetn ∧ (settle s).su = s.su ∧ (settle s).ma = s.ma
    ∧ (settle s).ss = s.ss ∧ (settle s).pending = s.pending := by
  unfold settle; split <;> simp

@[simp] theorem answerCall_frame (w : Word16) (s : State) :
    (answerCall w s).tb = s.tb ∧ (answerCall w s).resetn = s.resetn ∧ (answerCall w s).zq = s.zq
    ∧ (answerCall w s).ex = s.ex ∧ (answerCall w s).dc = s.dc ∧ (answerCall w s).nt = s.nt
    ∧ (answerCall w s).su = s.su ∧ (answerCall w s).ma = s.ma ∧ (answerCall w s).sl = s.sl
    ∧ (answerCall w s).ss = s.ss ∧ (answerCall w s).pending = s.pending := by
  unfold answerCall; split <;> simp

@[simp] theorem enterReleasing_frame (s : State) :
    (enterReleasing s).tb = s.tb ∧ (enterReleasing s).resetn = s.resetn ∧ (enterReleasing s).li = s.li
    ∧ (enterReleasing s).zq = s.zq ∧ (enterReleasing s).dc = s.dc ∧ (enterReleasing s).nt = s.nt
    ∧ (enterReleasing s).su = s.su ∧ (enterReleasing s).ma = s.ma ∧ (enterReleasing s).sl = s.sl
    ∧ (enterReleasing s).cl = s.cl ∧ (enterReleasing s).sn = s.sn ∧ (enterReleasing s).ss = s.ss
    ∧ (enterReleasing s).pending = s.pending := by
  simp [enterReleasing]

@[simp] theorem travelDone_frame (s : State) :
    (travelDone s).tb = s.tb ∧ (travelDone s).resetn = s.resetn ∧ (travelDone s).li = s.li
    ∧ (travelDone s).zq = s.zq ∧ (travelDone s).dc = s.dc ∧ (travelDone s).nt = s.nt ∧ (travelDone s).su = s.su
    ∧ (travelDone s).ma = s.ma ∧ (travelDone s).sl = s.sl ∧ (travelDone s).cl = s.cl ∧ (travelDone s).sn = s.sn
    ∧ (travelDone s).ss = s.ss ∧ (travelDone s).pending = s.pending := by
  simp [travelDone]

@[simp] theorem enterSwitching_frame (o : Outlet) (s : State) :
    (enterSwitching o s).tb = s.tb ∧ (enterSwitching o s).resetn = s.resetn ∧ (enterSwitching o s).li = s.li
    ∧ (enterSwitching o s).zq = s.zq ∧ (enterSwitching o s).dc = s.dc ∧ (enterSwitching o s).nt = s.nt
    ∧ (enterSwitching o s).su = s.su ∧ (enterSwitching o s).ma = s.ma ∧ (enterSwitching o s).sl = s.sl
    ∧ (enterSwitching o s).cl = s.cl ∧ (enterSwitching o s).sn = s.sn ∧ (enterSwitching o s).ss = s.ss
    ∧ (enterSwitching o s).pending = s.pending := by
  simp only [enterSwitching]; (repeat' split) <;> simp

@[simp] theorem acceptOffer_frame (w : Word16) (s : State) :
    (acceptOffer w s).tb = s.tb ∧ (acceptOffer w s).resetn = s.resetn ∧ (acceptOffer w s).dc = s.dc
    ∧ (acceptOffer w s).nt = s.nt ∧ (acceptOffer w s).su = s.su ∧ (acceptOffer w s).ma = s.ma
    ∧ (acceptOffer w s).sl = s.sl ∧ (acceptOffer w s).ss = s.ss ∧ (acceptOffer w s).pending = s.pending := by
  simp only [acceptOffer]; (repeat' split) <;> simp

@[simp] theorem endRelease_frame (s : State) :
    (endRelease s).tb = s.tb ∧ (endRelease s).resetn = s.resetn ∧ (endRelease s).li = s.li
    ∧ (endRelease s).nt = s.nt ∧ (endRelease s).su = s.su ∧ (endRelease s).ma = s.ma ∧ (endRelease s).ss = s.ss
    ∧ (endRelease s).pending = s.pending := by
  simp [endRelease]

@[simp] theorem removeHead_frame (s : State) :
    (removeHead s).tb = s.tb ∧ (removeHead s).resetn = s.resetn ∧ (removeHead s).nt = s.nt
    ∧ (removeHead s).su = s.su ∧ (removeHead s).ma = s.ma ∧ (removeHead s).ss = s.ss
    ∧ (removeHead s).pending = s.pending := by
  simp only [removeHead]; (repeat' split) <;> simp

@[simp] theorem driveSlot_frame (b : Slot) (s : State) :
    (driveSlot b s).tb = s.tb ∧ (driveSlot b s).resetn = s.resetn ∧ (driveSlot b s).zq = s.zq
    ∧ (driveSlot b s).ex = s.ex ∧ (driveSlot b s).dc = s.dc ∧ (driveSlot b s).nt = s.nt
    ∧ (driveSlot b s).su = s.su ∧ (driveSlot b s).ma = s.ma ∧ (driveSlot b s).sl = s.sl
    ∧ (driveSlot b s).cl = s.cl ∧ (driveSlot b s).sn = s.sn ∧ (driveSlot b s).ss = s.ss
    ∧ (driveSlot b s).pending = s.pending := by
  simp [driveSlot]

@[simp] theorem judgeCall_frame (a : Addr) (r : RackRecord) (s : State) :
    (judgeCall a r s).tb = s.tb ∧ (judgeCall a r s).resetn = s.resetn ∧ (judgeCall a r s).zq = s.zq
    ∧ (judgeCall a r s).ex = s.ex ∧ (judgeCall a r s).dc = s.dc ∧ (judgeCall a r s).nt = s.nt
    ∧ (judgeCall a r s).su = s.su ∧ (judgeCall a r s).ma = s.ma ∧ (judgeCall a r s).sl = s.sl
    ∧ (judgeCall a r s).ss = s.ss ∧ (judgeCall a r s).pending = s.pending := by
  unfold judgeCall; (repeat' split) <;> simp

@[simp] theorem joinExpected_frame (a : Addr) (b : List Byte) (u : Inlet) (s : State) :
    (joinExpected a b u s).tb = s.tb ∧ (joinExpected a b u s).resetn = s.resetn
    ∧ (joinExpected a b u s).ex = s.ex ∧ (joinExpected a b u s).nt = s.nt ∧ (joinExpected a b u s).su = s.su
    ∧ (joinExpected a b u s).sl = s.sl ∧ (joinExpected a b u s).ss = s.ss
    ∧ (joinExpected a b u s).pending = s.pending := by
  simp only [joinExpected]; (repeat' split) <;> simp

@[simp] theorem endHoldOffOn_frame (a : Addr) (b : StateBody) (s : State) :
    (endHoldOffOn a b s).tb = s.tb ∧ (endHoldOffOn a b s).resetn = s.resetn ∧ (endHoldOffOn a b s).li = s.li
    ∧ (endHoldOffOn a b s).zq = s.zq ∧ (endHoldOffOn a b s).dc = s.dc ∧ (endHoldOffOn a b s).nt = s.nt
    ∧ (endHoldOffOn a b s).su = s.su ∧ (endHoldOffOn a b s).ma = s.ma ∧ (endHoldOffOn a b s).sl = s.sl
    ∧ (endHoldOffOn a b s).cl = s.cl ∧ (endHoldOffOn a b s).sn = s.sn ∧ (endHoldOffOn a b s).ss = s.ss
    ∧ (endHoldOffOn a b s).pending = s.pending := by
  unfold endHoldOffOn; split <;> simp

@[simp] theorem storeCall_frame (k : CallKey) (s : State) :
    (storeCall k s).tb = s.tb ∧ (storeCall k s).resetn = s.resetn ∧ (storeCall k s).li = s.li
    ∧ (storeCall k s).zq = s.zq ∧ (storeCall k s).ex = s.ex ∧ (storeCall k s).dc = s.dc
    ∧ (storeCall k s).nt = s.nt ∧ (storeCall k s).su = s.su ∧ (storeCall k s).ma = s.ma
    ∧ (storeCall k s).sl = s.sl ∧ (storeCall k s).sn = s.sn ∧ (storeCall k s).ss = s.ss
    ∧ (storeCall k s).pending = s.pending := by
  unfold storeCall; (repeat' split) <;> simp

@[simp] theorem unlatch_frame (c : Byte) (s : State) :
    (unlatch c s).tb = s.tb ∧ (unlatch c s).resetn = s.resetn ∧ (unlatch c s).li = s.li
    ∧ (unlatch c s).zq = s.zq ∧ (unlatch c s).ex = s.ex ∧ (unlatch c s).dc = s.dc ∧ (unlatch c s).nt = s.nt
    ∧ (unlatch c s).su = s.su ∧ (unlatch c s).ma = s.ma ∧ (unlatch c s).sl = s.sl ∧ (unlatch c s).cl = s.cl
    ∧ (unlatch c s).ss = s.ss ∧ (unlatch c s).pending = s.pending := by
  simp [unlatch]

@[simp] theorem frameHeard_frame (s : State) :
    (frameHeard s).tb = s.tb ∧ (frameHeard s).resetn = s.resetn ∧ (frameHeard s).zq = s.zq
    ∧ (frameHeard s).ex = s.ex ∧ (frameHeard s).dc = s.dc ∧ (frameHeard s).nt = s.nt ∧ (frameHeard s).su = s.su
    ∧ (frameHeard s).ma = s.ma ∧ (frameHeard s).sl = s.sl ∧ (frameHeard s).cl = s.cl ∧ (frameHeard s).sn = s.sn
    ∧ (frameHeard s).ss = s.ss ∧ (frameHeard s).pending = s.pending := by
  simp [frameHeard]

@[simp] theorem countReceiveError_frame (s : State) :
    (countReceiveError s).tb = s.tb ∧ (countReceiveError s).resetn = s.resetn ∧ (countReceiveError s).zq = s.zq
    ∧ (countReceiveError s).ex = s.ex ∧ (countReceiveError s).dc = s.dc ∧ (countReceiveError s).nt = s.nt
    ∧ (countReceiveError s).su = s.su ∧ (countReceiveError s).ma = s.ma ∧ (countReceiveError s).sl = s.sl
    ∧ (countReceiveError s).cl = s.cl ∧ (countReceiveError s).sn = s.sn ∧ (countReceiveError s).ss = s.ss
    ∧ (countReceiveError s).pending = s.pending := by
  simp [countReceiveError]

@[simp] theorem sendAbort_frame (s : State) :
    (sendAbort s).tb = s.tb ∧ (sendAbort s).resetn = s.resetn ∧ (sendAbort s).zq = s.zq
    ∧ (sendAbort s).ex = s.ex ∧ (sendAbort s).dc = s.dc ∧ (sendAbort s).nt = s.nt ∧ (sendAbort s).su = s.su
    ∧ (sendAbort s).ma = s.ma ∧ (sendAbort s).sl = s.sl ∧ (sendAbort s).cl = s.cl ∧ (sendAbort s).sn = s.sn
    ∧ (sendAbort s).ss = s.ss ∧ (sendAbort s).pending = s.pending := by
  simp [sendAbort]

@[simp] theorem sendAbort_line (s : State) :
    (sendAbort s).li.tx = s.li.tx ∧ (sendAbort s).li.aborting = true ∧ sentBits (sendAbort s) = abortBits := by
  simp [sendAbort, sentBits]

@[simp] theorem awaitRelease_frame (s : State) :
    (awaitRelease s).tb = s.tb ∧ (awaitRelease s).resetn = s.resetn ∧ (awaitRelease s).zq = s.zq
    ∧ (awaitRelease s).ex = s.ex ∧ (awaitRelease s).dc = s.dc ∧ (awaitRelease s).nt = s.nt
    ∧ (awaitRelease s).su = s.su ∧ (awaitRelease s).ma = s.ma ∧ (awaitRelease s).sl = s.sl
    ∧ (awaitRelease s).cl = s.cl ∧ (awaitRelease s).sn = s.sn ∧ (awaitRelease s).ss = s.ss
    ∧ (awaitRelease s).pending = s.pending := by
  simp [awaitRelease]

@[simp] theorem changeQueue_frame (f : RackRecord → RackRecord) (s : State) :
    (changeQueue f s).tb = s.tb ∧ (changeQueue f s).resetn = s.resetn ∧ (changeQueue f s).li = s.li
    ∧ (changeQueue f s).ex = s.ex ∧ (changeQueue f s).dc = s.dc ∧ (changeQueue f s).nt = s.nt
    ∧ (changeQueue f s).su = s.su ∧ (changeQueue f s).ma = s.ma ∧ (changeQueue f s).sl = s.sl
    ∧ (changeQueue f s).cl = s.cl ∧ (changeQueue f s).sn = s.sn ∧ (changeQueue f s).ss = s.ss
    ∧ (changeQueue f s).pending = s.pending := by
  simp [changeQueue]

@[simp] theorem setFaultCount_frame (n : Nat) (s : State) :
    (setFaultCount n s).tb = s.tb ∧ (setFaultCount n s).resetn = s.resetn ∧ (setFaultCount n s).li = s.li
    ∧ (setFaultCount n s).zq = s.zq ∧ (setFaultCount n s).ex = s.ex ∧ (setFaultCount n s).dc = s.dc
    ∧ (setFaultCount n s).nt = s.nt ∧ (setFaultCount n s).ma = s.ma ∧ (setFaultCount n s).sl = s.sl
    ∧ (setFaultCount n s).cl = s.cl ∧ (setFaultCount n s).sn = s.sn ∧ (setFaultCount n s).ss = s.ss
    ∧ (setFaultCount n s).pending = s.pending := by
  simp [setFaultCount]

@[simp] theorem convert_frame (p c : AdcCode) (s : State) :
    (convert p c s).tb = s.tb ∧ (convert p c s).resetn = s.resetn ∧ (convert p c s).li = s.li
    ∧ (convert p c s).zq = s.zq ∧ (convert p c s).ex = s.ex ∧ (convert p c s).dc = s.dc
    ∧ (convert p c s).nt = s.nt ∧ (convert p c s).ma = s.ma ∧ (convert p c s).sl = s.sl
    ∧ (convert p c s).cl = s.cl ∧ (convert p c s).sn = s.sn ∧ (convert p c s).ss = s.ss
    ∧ (convert p c s).pending = s.pending := by
  simp [convert]

@[simp] theorem judgeCurrent_frame (c : Nat) (s : State) :
    (judgeCurrent c s).tb = s.tb ∧ (judgeCurrent c s).resetn = s.resetn ∧ (judgeCurrent c s).su = s.su
    ∧ (judgeCurrent c s).ma = s.ma ∧ (judgeCurrent c s).sl = s.sl ∧ (judgeCurrent c s).ss = s.ss
    ∧ (judgeCurrent c s).pending = s.pending := by
  simp only [judgeCurrent]; (repeat' split) <;> simp

@[simp] theorem faultedSample_frame (p : AdcCode) (s : State) :
    (faultedSample p s).tb = s.tb ∧ (faultedSample p s).resetn = s.resetn ∧ (faultedSample p s).ma = s.ma
    ∧ (faultedSample p s).sl = s.sl ∧ (faultedSample p s).ss = s.ss ∧ (faultedSample p s).pending = s.pending := by
  simp only [faultedSample]; (repeat' split) <;> simp

@[simp] theorem goodSample_frame (p : AdcCode) (s : State) :
    (goodSample p s).tb = s.tb ∧ (goodSample p s).resetn = s.resetn ∧ (goodSample p s).li = s.li
    ∧ (goodSample p s).ex = s.ex ∧ (goodSample p s).dc = s.dc ∧ (goodSample p s).nt = s.nt
    ∧ (goodSample p s).ma = s.ma ∧ (goodSample p s).sl = s.sl ∧ (goodSample p s).cl = s.cl
    ∧ (goodSample p s).sn = s.sn ∧ (goodSample p s).ss = s.ss ∧ (goodSample p s).pending = s.pending := by
  simp only [goodSample]; (repeat' split) <;> simp

@[simp] theorem changeEntry_frame (f : TxEntry → TxEntry) (n : Nat) (s : State) :
    (changeEntry f n s).tb = s.tb ∧ (changeEntry f n s).resetn = s.resetn ∧ (changeEntry f n s).zq = s.zq
    ∧ (changeEntry f n s).ex = s.ex ∧ (changeEntry f n s).dc = s.dc ∧ (changeEntry f n s).nt = s.nt
    ∧ (changeEntry f n s).su = s.su ∧ (changeEntry f n s).ma = s.ma ∧ (changeEntry f n s).sl = s.sl
    ∧ (changeEntry f n s).cl = s.cl ∧ (changeEntry f n s).sn = s.sn ∧ (changeEntry f n s).ss = s.ss
    ∧ (changeEntry f n s).pending = s.pending := by
  simp [changeEntry]

@[simp] theorem leaveList_frame (n : Nat) (e : TxEntry) (s : State) :
    (leaveList n e s).tb = s.tb ∧ (leaveList n e s).resetn = s.resetn ∧ (leaveList n e s).zq = s.zq
    ∧ (leaveList n e s).ex = s.ex ∧ (leaveList n e s).dc = s.dc ∧ (leaveList n e s).nt = s.nt
    ∧ (leaveList n e s).su = s.su ∧ (leaveList n e s).ma = s.ma ∧ (leaveList n e s).sl = s.sl
    ∧ (leaveList n e s).cl = s.cl ∧ (leaveList n e s).sn = s.sn ∧ (leaveList n e s).ss = s.ss
    ∧ (leaveList n e s).pending = s.pending := by
  simp [leaveList]

end Sys2Proof.Machine
end

