-- ==== Sys2Proof/Laws/Ops.lean ====
section
/-! SUPPORT. Laws/Ops.lean: what the shared operations can do, one operation after another, so that a proof about a command
cites these lemmas and unfolds none of the operations. -/

namespace Sys2Proof.Machine

/-! ## Commands -/

/-- Every command has a next state. -/
theorem exec_next (c : Instr) (s : State) : ∃ t, exec c s = .next t := by
  cases c <;> exact ⟨_, rfl⟩

@[simp] theorem whileRunning_awake {s : State} (h : s.resetn = false) (f : State → State) :
    whileRunning f s = f s := by
  simp [whileRunning, h]

@[simp] theorem whileRunning_held {s : State} (h : s.resetn = true) (f : State → State) :
    whileRunning f s = s := by
  simp [whileRunning, h]

@[simp] theorem onExpiry_none (f : State → State) (s : State) : onExpiry none f s = s := rfl

theorem reachExpiry_due {t : Timer} {s : State} (h : t.due s.tb = true) : reachExpiry t s = s := by
  simp [reachExpiry, h]

/-- An expiry that is due has its effect on the state as it stands. -/
theorem onExpiry_due {o : Option Timer} {t : Timer} {s : State} (ho : o = some t) (h : t.due s.tb = true)
    (f : State → State) : onExpiry o f s = f s := by
  simp [onExpiry, ho, reachExpiry_due h]

/-- Reaching a moment of expiry twice is reaching it once. -/
theorem reachExpiry_idem (t : Timer) (s : State) : reachExpiry t (reachExpiry t s) = reachExpiry t s := by
  by_cases h : t.due s.tb = true
  · simp [reachExpiry, h]
  · by_cases h2 : t.due (t.start + BitVec.ofNat 32 t.duration) = true <;> simp [reachExpiry, h, h2]

/-! ## Items -/

theorem itemIndex_injective {i j : Item} (h : itemIndex i = itemIndex j) : i = j := by
  cases i <;> cases j <;> first | rfl | (simp [itemIndex] at h)

theorem itemValue_eq (items : Items) (i : Item) : itemValue items i = items[(itemIndex i).val] := rfl

@[simp] theorem itemValue_setItem (c : Items) (i : Item) (v : Option Word16) : itemValue (setItem c i v) i = v := by
  simp [itemValue_eq, setItem]

theorem itemValue_setItem_ne (c : Items) {i j : Item} (v : Option Word16) (h : i ≠ j) :
    itemValue (setItem c i v) j = itemValue c j := by
  have : (itemIndex i).val ≠ (itemIndex j).val := fun e => h (itemIndex_injective (Fin.ext e))
  simp [itemValue_eq, setItem, this]

@[simp] theorem itemValue_unset (i : Item) : itemValue Items.unset i = none := by
  simp [itemValue_eq, Items.unset]

/-- An item is loaded as its stored value, or as its default when it is unset (R161). -/
theorem itemValue_loadedItems (c : Items) (i : Item) :
    itemValue (loadedItems c) i = (itemValue c i).or (itemDefault i) := by
  cases i <;> simp [itemValue_eq, loadedItems, itemIndex, itemList]

/-! ## Latched faults -/

@[simp] theorem latched_setLatched (fs : Faults) (k : FaultKind) (v : Option LatchedFault) :
    latched? (setLatched fs k v) k = v := by
  cases k <;> rfl

theorem latched_setLatched_ne (fs : Faults) {j k : FaultKind} (v : Option LatchedFault) (h : j ≠ k) :
    latched? (setLatched fs j v) k = latched? fs k := by
  cases j <;> cases k <;> first | rfl | exact absurd rfl h

end Sys2Proof.Machine
end

