-- ==== Sys2Proof/Laws/Placing.lean ====
section
/-! SUPPORT. Laws/Placing.lean: what an event does to LI while no frame is heard or sent: it places frames, one after
another, and nothing else. Everything that a placing keeps, every such operation keeps. -/

namespace Sys2Proof.Machine

/-- LI after some frames have been placed, one after another (R145). -/
inductive Placings (li : LineInterface) : LineInterface → Prop
  | done : Placings li li
  | more {li'} (f : Frame) : Placings li li' → Placings li (placeFrame f li').1

theorem Placings.trans {a b c : LineInterface} (h : Placings a b) (h' : Placings b c) : Placings a c := by
  induction h' with
  | done => exact h
  | more f _ ih => exact .more f ih

/-- A placing changes the transmit list and the line drops alone. -/
theorem placeFrame_rest (f : Frame) (li : LineInterface) :
    (placeFrame f li).1.line = li.line ∧ (placeFrame f li).1.recessiveRun = li.recessiveRun
      ∧ (placeFrame f li).1.receiveErrors = li.receiveErrors
      ∧ (placeFrame f li).1.awaitRelease = li.awaitRelease ∧ (placeFrame f li).1.slot = li.slot
      ∧ (placeFrame f li).1.aborting = li.aborting := by
  unfold placeFrame; (repeat' split) <;> simp

/-- A placing keeps every entry that is no STATE. -/
theorem placeFrame_keeps (f : Frame) {li : LineInterface} {e : TxEntry} (h : e ∈ li.tx)
    (hk : hasKind .state e = false) : e ∈ (placeFrame f li).1.tx := by
  unfold placeFrame
  split
  · simp [h, hk]
  split
  · simp only [List.mem_map]; exact ⟨e, h, by simp [hk]⟩
  (repeat' split) <;> simp [h]

/-- A frame that is no STATE joins the list when the list has fewer than 8 frames and, for a NOTICE, fewer than 3 of
them. -/
theorem placeFrame_joins (f : Frame) {li : LineInterface} (hk : f.kind ≠ .state) (h8 : li.tx.length < 8)
    (h3 : f.kind = .notice → li.tx.countP (hasKind .notice) < 3) :
    (placeFrame f li).1.tx = li.tx ++ [freshEntry f] := by
  unfold placeFrame
  rw [if_neg (by simp [hk]), if_neg (by simp [hk])]
  rw [if_neg (by intro ⟨a, b⟩; exact absurd (h3 a) (by omega)), if_neg (by omega)]

/-- A placing keeps the limits of the transmit list (R145). -/
theorem placeFrame_ok (f : Frame) {li : LineInterface} (h : TransmitOk li) : TransmitOk (placeFrame f li).1 := by
  obtain ⟨h8, hs, hn, hd, he⟩ := h
  have fresh : (freshEntry f).attempts < 8
      ∧ ((freshEntry f).replacement.all fun g => g.kind == .state && (freshEntry f).frame.kind == .state) = true := by
    simp [freshEntry]
  unfold placeFrame
  split
  case isTrue hc =>
    obtain ⟨hk, ha⟩ := hc
    have hlen : (li.tx.filter fun e => !hasKind .state e).length < li.tx.length := by
      rw [List.length_filter_lt_length_iff_exists]
      simp only [List.any_eq_true, Bool.and_eq_true] at ha
      obtain ⟨e, hm, h1, -⟩ := ha
      exact ⟨e, hm, by simp [h1]⟩
    refine ⟨by simp only [List.length_append, List.length_singleton]; omega, ?_, ?_, ?_, ?_⟩
    · rw [List.countP_append]
      have : (li.tx.filter fun e => !hasKind .state e).countP (hasKind .state) = 0 := by
        simp [List.countP_eq_zero]
      simp only [this, List.countP_singleton]; split <;> omega
    · rw [List.countP_append]
      have : (li.tx.filter fun e => !hasKind .state e).countP (hasKind .notice) ≤ 3 :=
        (List.Sublist.countP_le List.filter_sublist).trans hn
      simp only [List.countP_singleton, hasKind, freshEntry, hk]; simpa [hasKind] using this
    · rw [List.countP_append]
      have : (li.tx.filter fun e => !hasKind .state e).countP (·.sending) ≤ 1 :=
        (List.Sublist.countP_le List.filter_sublist).trans hd
      simpa [freshEntry] using this
    · intro e hm
      rcases List.mem_append.1 hm with hm | hm
      · exact he e (List.mem_of_mem_filter hm)
      · rw [List.mem_singleton.1 hm]; exact fresh
  split
  case isTrue hc =>
    obtain ⟨hk, -⟩ := hc
    have kinds : ∀ k, hasKind k ∘ (fun e => if hasKind .state e then { e with replacement := some f } else e)
        = hasKind k := by
      intro k; funext e; simp only [Function.comp]; split <;> rfl
    have sends : (fun e : TxEntry => e.sending) ∘ (fun e => if hasKind .state e then
        { e with replacement := some f } else e) = (·.sending) := by
      funext e; simp only [Function.comp]; split <;> rfl
    refine ⟨by simpa using h8, by simpa [List.countP_map, kinds] using hs,
      by simpa [List.countP_map, kinds] using hn, by simpa [List.countP_map, sends] using hd, ?_⟩
    intro e hm
    simp only [List.mem_map] at hm
    obtain ⟨x, hx, rfl⟩ := hm
    split
    · rename_i hst
      exact ⟨(he x hx).1, by simpa [hk, hasKind] using hst⟩
    · exact he x hx
  case isFalse h2 =>
    split
    · exact ⟨h8, hs, hn, hd, he⟩
    split
    · exact ⟨h8, hs, hn, hd, he⟩
    rename_i h3 h4
    refine ⟨by simp only [List.length_append, List.length_singleton]; omega, ?_, ?_, ?_, ?_⟩
    · rw [List.countP_append, List.countP_singleton]
      by_cases hk : f.kind = .state
      · have : li.tx.countP (hasKind .state) = 0 := by
          simp only [hk, true_and, List.any_eq_true, not_exists, not_and] at h2
          exact List.countP_eq_zero.2 h2
        rw [this]; split <;> omega
      · simpa [hasKind, freshEntry, hk] using hs
    · rw [List.countP_append, List.countP_singleton]
      by_cases hk : f.kind = .notice
      · simp only [hk, true_and, not_le] at h3
        split <;> omega
      · simpa [hasKind, freshEntry, hk] using hn
    · rw [List.countP_append]; simpa [freshEntry] using hd
    · intro e hm
      rcases List.mem_append.1 hm with hm | hm
      · exact he e hm
      · rw [List.mem_singleton.1 hm]; exact fresh

theorem Placings.ok {a b : LineInterface} (h : Placings a b) (ha : TransmitOk a) : TransmitOk b := by
  induction h with
  | done => exact ha
  | more f _ ih => exact placeFrame_ok f ih

theorem Placings.rest {a b : LineInterface} (h : Placings a b) :
    b.line = a.line ∧ b.recessiveRun = a.recessiveRun ∧ b.receiveErrors = a.receiveErrors
      ∧ b.awaitRelease = a.awaitRelease ∧ b.slot = a.slot ∧ b.aborting = a.aborting := by
  induction h with
  | done => simp
  | more f _ ih => simpa [placeFrame_rest] using ih

theorem Placings.keeps {a b : LineInterface} (h : Placings a b) {e : TxEntry} (he : e ∈ a.tx)
    (hk : hasKind .state e = false) : e ∈ b.tx := by
  induction h with
  | done => exact he
  | more f _ ih => exact placeFrame_keeps f ih hk

/-! ## Every operation that places -/

theorem sendFrame_placings (f : Frame) (s : State) : Placings s.li (sendFrame f s).li := by
  unfold sendFrame; split
  · exact .more f .done
  · exact .done

theorem sendNotice_placings (k : NoticeKind) (d : Byte) (t v : Word16) (s : State) :
    Placings s.li (sendNotice k d t v s).li := sendFrame_placings _ _

theorem placeState_placings (s : State) : Placings s.li (placeState s).li := sendFrame_placings _ _

theorem announce_placings (s : State) : Placings s.li (announce s).li := by
  unfold announce; split
  · exact placeState_placings s
  · exact .done

theorem recallOffer_placings (gone : Bool) (s : State) : Placings s.li (recallOffer gone s).li := by
  unfold recallOffer; simp only []; split
  · simpa using sendFrame_placings _ s
  · simpa using Placings.done

theorem stopExit_placings (s : State) : Placings s.li (stopExit s).li := by
  unfold stopExit; split <;> first | exact recallOffer_placings _ _ | exact .done

theorem haltBegins_placings (s : State) : Placings s.li (haltBegins s).li := by
  simpa [haltBegins] using stopExit_placings (cancelRunOn (setDrive .off s))

theorem changeTerms_placings {change : State → State} {s : State} (h : Placings s.li (change s).li) :
    Placings s.li (changeTerms change s).li := by
  unfold changeTerms; simp only []; split
  · exact h.trans (haltBegins_placings _)
  split
  · simpa using h
  · exact h

theorem enterFaulted_placings (s : State) : Placings s.li (enterFaulted s).li := by
  refine .trans ?_ (announce_placings _)
  simpa using stopExit_placings (cancelRunOn (setDrive .off { s with sn := { s.sn with service := .faulted } }))

theorem latchFault_placings (k : FaultKind) (d : Byte) (t v : Word16) (s : State) :
    Placings s.li (latchFault k d t v s).li := by
  simp only [latchFault]; split
  · exact .done
  · refine .trans ?_ (sendNotice_placings _ _ _ _ _)
    split
    · have h : ∀ n, Placings s.li (enterFaulted { s with sn := n }).li := fun n =>
        enterFaulted_placings { s with sn := n }
      exact h _
    · exact .done

theorem makeStray_placings (d : Byte) (v : Word16) (s : State) : Placings s.li (makeStray d v s).li := by
  simpa [makeStray] using sendNotice_placings .stray d 0 v
    (count (fun c => { c with strays := c.strays + 1 }) (joinQueue (strayRecord s) s))

theorem loseExpected_placings (n : Nat) (s : State) : Placings s.li (loseExpected n s).li := by
  unfold loseExpected; split
  · exact .done
  · simpa using sendNotice_placings _ _ _ _ (count (fun c => { c with lost := c.lost + 1 }) (dropExpected n s))

theorem applyJudgement_placings (s : State) : Placings s.li (applyJudgement s).li := by
  unfold applyJudgement; split
  · simp only []; split
    · exact .done
    split
    · simpa using sendNotice_placings _ _ _ _ (count _ (changeHead _ { s with sl := _ }))
    · simpa using Placings.done
  · exact .done

theorem prepareHead_placings (s : State) : Placings s.li (prepareHead s).li := by
  unfold prepareHead; split
  · simpa using Placings.done
  · exact applyJudgement_placings s
  · simpa using Placings.done
  all_goals exact .done

theorem makeOffer_placings (o : Outlet) (z : Addr) (s : State) : Placings s.li (makeOffer o z s).li := by
  simp only [makeOffer]; split
  · exact .trans (by simpa using prepareHead_placings s) (sendFrame_placings _ (takeSerial o (prepareHead s)))
  · exact .trans (by simpa using prepareHead_placings s)
      (by simpa using sendFrame_placings _ (takeSerial o (prepareHead s)))

theorem testOffer_placings (s : State) : Placings s.li (testOffer s).li := by
  unfold testOffer; split
  · split
    · exact .done
    · exact makeOffer_placings _ _ _
  · exact .done

theorem issueCall_placings (s : State) : Placings s.li (issueCall s).li := by
  simpa [issueCall] using sendFrame_placings _ { s with cl := _ }

theorem issueCalls_placings (n : Nat) (s : State) : Placings s.li (issueCalls n s).li := by
  induction n generalizing s with
  | zero => exact .done
  | succ n ih => unfold issueCalls; split
                 · exact (issueCall_placings s).trans (ih _)
                 · exact .done

theorem withdrawCall_placings (n : Nat) (s : State) : Placings s.li (withdrawCall n s).li := by
  unfold withdrawCall; split
  · exact .done
  · simpa using sendFrame_placings _ { s with cl := _ }

theorem withdrawExcess_placings (n : Nat) (s : State) : Placings s.li (withdrawExcess n s).li := by
  induction n generalizing s with
  | zero => exact .done
  | succ n ih => unfold withdrawExcess; split
                 · exact (withdrawCall_placings _ s).trans (ih _)
                 · exact .done

theorem withdrawAll_placings (n : Nat) (s : State) : Placings s.li (withdrawAll n s).li := by
  induction n generalizing s with
  | zero => exact .done
  | succ n ih => unfold withdrawAll; split
                 · exact .done
                 · exact (withdrawCall_placings _ s).trans (ih _)

theorem testNeed_placings (s : State) : Placings s.li (testNeed s).li := by
  unfold testNeed; split
  · exact (withdrawExcess_placings _ s).trans (issueCalls_placings _ _)
  · exact .done

/-- The tests an event ends with place frames and do nothing else to LI. -/
theorem settle_placings (s : State) : Placings s.li (settle s).li := by
  unfold settle; split
  · refine .trans ?_ (announce_placings _)
    simp only [testDrive_frame]
    refine .trans ?_ (testOffer_placings _)
    refine .trans ?_ (testNeed_placings _)
    simpa using Placings.done
  · exact .done

theorem answerCall_placings (w : Word16) (s : State) : Placings s.li (answerCall w s).li := by
  unfold answerCall; split
  · exact .done
  · simpa using sendFrame_placings _ s

theorem acceptOffer_placings (w : Word16) (s : State) : Placings s.li (acceptOffer w s).li := by
  have h : Placings s.li (if role s = .spur then answerCall w s else s).li := by
    split
    · exact answerCall_placings w s
    · exact .done
  simp only [acceptOffer]
  generalize (if role s = .spur then answerCall w s else s) = u at h ⊢
  split
  · exact h.trans (recallOffer_placings _ _)
  split
  · exact h
  split <;> simpa using h

theorem removeHead_placings (s : State) : Placings s.li (removeHead s).li := by
  unfold removeHead; split
  · exact .done
  rename_i head _ _
  have h : Placings s.li (sendNotice .removed 0 (tagWord head.tag) (BitVec.ofNat 16 (contentCode head.content))
      (count (fun c => { c with removed := c.removed + 1 }) (leaveHead s))).li := by
    simpa using sendNotice_placings _ _ _ _ (count (fun c => { c with removed := c.removed + 1 }) (leaveHead s))
  simp only []
  generalize sendNotice .removed 0 (tagWord head.tag) (BitVec.ofNat 16 (contentCode head.content))
      (count (fun c => { c with removed := c.removed + 1 }) (leaveHead s)) = u at h ⊢
  split
  · exact h
  · exact h.trans (recallOffer_placings _ _)
  all_goals exact h

theorem judgeCall_placings (a : Addr) (r : RackRecord) (s : State) : Placings s.li (judgeCall a r s).li := by
  unfold judgeCall; split
  · exact .done
  split
  · exact .done
  · simpa using sendNotice_placings _ _ _ _ (count (fun c => { c with surplus := c.surplus + 1 }) s)

theorem joinExpected_placings (a : Addr) (b : List Byte) (u : Inlet) (s : State) :
    Placings s.li (joinExpected a b u s).li := by
  simp only [joinExpected]
  generalize hu : cancelQuiet (cancelRunOn { s with
    zq := { s.zq with expected := s.zq.expected ++ [passEntry a b s] }
    ma := if role s = .merge then arbitrated u s else s.ma }) = v
  have h : v.li = s.li := by simp [← hu]
  rw [← h]; split
  · exact judgeCall_placings _ _ _
  · exact .done

theorem judgeCurrent_placings (c : Nat) (s : State) : Placings s.li (judgeCurrent c s).li := by
  simp only [judgeCurrent]; (repeat' split) <;> try exact .done
  have h : ∀ d, Placings s.li (latchFault .jam 0 0 (BitVec.ofNat 16 c) { s with dc := d }).li :=
    fun d => latchFault_placings _ _ _ _ { s with dc := d }
  exact h _

theorem faultedSample_placings (p : AdcCode) (s : State) : Placings s.li (faultedSample p s).li := by
  simp only [faultedSample]; split
  · exact .trans (by simpa using Placings.done) (latchFault_placings _ _ _ _ _)
  · simpa using Placings.done

end Sys2Proof.Machine
end

