-- ==== Sys2Proof/Laws/Reception.lean ====
section
/-! SUPPORT. Laws/Reception.lean: how a frame reaches its owner, case by case, so that a proof about a command of reception
cites one of these lemmas and unfolds none of LI's tests (R148 to R150). -/

namespace Sys2Proof.Machine

@[simp] theorem frameHeard_line (s : State) :
    (frameHeard s).li.tx = s.li.tx ∧ (frameHeard s).li.awaitRelease = s.li.awaitRelease
    ∧ (frameHeard s).li.line = .busy ∧ (frameHeard s).li.slot = .nothing
    ∧ (frameHeard s).li.aborting = false := by
  simp [frameHeard]

@[simp] theorem frameHeard_conditions (s : State) :
    configured (frameHeard s) = configured s ∧ role (frameHeard s) = role s ∧ ownZone (frameHeard s) = ownZone s
    ∧ halted (frameHeard s) = halted s ∧ inService (frameHeard s) = inService s
    ∧ capacity (frameHeard s) = capacity s ∧ freePlaces (frameHeard s) = freePlaces s
    ∧ ∀ z, neighbour? (frameHeard s) z = neighbour? s z :=
  ⟨rfl, rfl, rfl, rfl, rfl, rfl, rfl, fun _ => rfl⟩

@[simp] theorem driveSlot_line (b : Slot) (s : State) :
    (driveSlot b s).li.tx = s.li.tx ∧ (driveSlot b s).li.slot = b ∧ (driveSlot b s).li.aborting = s.li.aborting := by
  simp [driveSlot]

/-- A node that waits for the release of the line receives no frame (R141, R143). -/
theorem receiveFrame_waiting {s : State} (h : s.li.awaitRelease = true) (f : Frame) : receiveFrame f s = s := by
  simp [receiveFrame, h]

/-- A frame of another sender, of an allowed length, at a node that hears it: its target decides (R148). -/
theorem receiveFrame_hearing {f : Frame} {s : State} (h : Hearing s) (ho : FromOther f.source s)
    (hk : f.kind ≠ .reserved) (hl : lengthAllowed f.kind f.body.length = true) :
    receiveFrame f s = takeGood f (frameHeard s) := by
  obtain ⟨⟨-, hc⟩, hw⟩ := h
  simp [receiveFrame, hw, hl, acceptGood, hk, hc, testDuplicate, ho.2]

/-- The same at a node that is not configured: only a frame to the setup address, in its window (R150). -/
theorem receiveFrame_unconfigured {f : Frame} {s : State} (hc : configured s = false)
    (hw : s.li.awaitRelease = false) (hk : f.kind ≠ .reserved)
    (hl : lengthAllowed f.kind f.body.length = true) :
    receiveFrame f s
      = if targetAllowed f.kind f.target && f.target == setupAddr then deliverAtSetup f (frameHeard s)
        else frameHeard s := by
  simp [receiveFrame, hw, hl, acceptGood, hk, hc]

/-- A broadcast reaches its owner. -/
theorem takeGood_broadcast {f : Frame} (s : State) (h : f.target = 0)
    (ht : targetAllowed f.kind 0 = true) : takeGood f s = deliver f s := by
  rw [takeGood, h, ht]
  simp

/-- A frame addressed to the node reaches its owner. -/
theorem takeGood_own {f : Frame} {s : State} (h : ownZone s = some f.target)
    (ht : targetAllowed f.kind f.target = true) : takeGood f s = deliver f s := by
  simp [takeGood, ht, h]

/-- A station's octet names the station. -/
theorem stationOfOctet_station {st : Station} (h : st ≠ 0) : stationOfOctet (st.setWidth 8) = some st := by
  revert h; revert st; decide

end Sys2Proof.Machine
end

