-- ==== Sys2Proof/Laws/Settle.lean ====
section
/-! SUPPORT. Laws/Settle.lean: what the tests at the end of an event can do to each block, and what they leave. -/

namespace Sys2Proof.Machine

/-! ## Each test's part of its block -/

@[simp] theorem changeHead_rest (f : RackRecord → RackRecord) (s : State) :
    (changeHead f s).zq.expected = s.zq.expected ∧ (changeHead f s).zq.tagWindow = s.zq.tagWindow
      ∧ (changeHead f s).zq.eye1 = s.zq.eye1 ∧ (changeHead f s).zq.eye2 = s.zq.eye2
      ∧ (changeHead f s).zq.eyeX = s.zq.eyeX ∧ (changeHead f s).zq.queue.length = s.zq.queue.length
      ∧ (changeHead f s).zq.queue.tail = s.zq.queue.tail := by
  unfold changeHead; split <;> simp_all

@[simp] theorem changeHead_isEmpty (f : RackRecord → RackRecord) (s : State) :
    (changeHead f s).zq.queue.isEmpty = s.zq.queue.isEmpty := by
  unfold changeHead; split <;> simp_all

@[simp] theorem unbindOffer_rest (gone : Bool) (s : State) :
    (unbindOffer gone s).zq.expected = s.zq.expected ∧ (unbindOffer gone s).zq.tagWindow = s.zq.tagWindow
      ∧ (unbindOffer gone s).zq.eye1 = s.zq.eye1 ∧ (unbindOffer gone s).zq.eye2 = s.zq.eye2
      ∧ (unbindOffer gone s).zq.eyeX = s.zq.eyeX ∧ (unbindOffer gone s).zq.queue.length = s.zq.queue.length
      ∧ (unbindOffer gone s).zq.queue.tail = s.zq.queue.tail
      ∧ (unbindOffer gone s).zq.queue.isEmpty = s.zq.queue.isEmpty
      ∧ (unbindOffer gone s).cl.calls = s.cl.calls ∧ (unbindOffer gone s).cl.lastSerial = s.cl.lastSerial
      ∧ (unbindOffer gone s).cl.stationOpen = s.cl.stationOpen ∧ (unbindOffer gone s).cl.offerCall = none := by
  unfold unbindOffer; split
  · simp only []; split <;> simp
  · simp_all

/-- An unbinding changes the head's bound call and no other field of a record. -/
theorem unbindOffer_contents (gone : Bool) (s : State) :
    (unbindOffer gone s).zq.queue.map (·.content) = s.zq.queue.map (·.content) := by
  unfold unbindOffer; split
  · simp only []; split
    · rfl
    · unfold changeHead; split <;> simp_all [unbound]
  · rfl

@[simp] theorem recallOffer_zq (gone : Bool) (s : State) :
    (recallOffer gone s).zq = (unbindOffer gone s).zq := by
  have h : ∀ f, (unbindOffer gone (sendFrame f s)).zq = (unbindOffer gone s).zq := by
    intro f; unfold unbindOffer; simp only [sendFrame_frame]; split
    · simp only []; split
      · simp
      · unfold changeHead; simp only [sendFrame_frame]; split <;> simp
    · simp
  unfold recallOffer; simp only []; split <;> simp [h, closeExit, endOffer]

@[simp] theorem recallOffer_ex (gone : Bool) (s : State) :
    (recallOffer gone s).ex = { s.ex with exit := .closed, outlet := none, serial := none, gate := false,
                                          travel := none, release := none } := by
  unfold recallOffer; simp only []; split <;> simp [closeExit, endOffer]

@[simp] theorem recallOffer_cl (gone : Bool) (s : State) :
    (recallOffer gone s).cl = { s.cl with offerCall := none } := by
  have h : ∀ u : State, u.cl = s.cl → (unbindOffer gone u).cl = { s.cl with offerCall := none } := by
    intro u hu; unfold unbindOffer; split
    · simp only []; split <;> simp [hu]
    · rename_i hn; rw [← hu]; simp at hn; simp [← hn]
  unfold recallOffer; simp only []; split <;> simp [closeExit, endOffer, h]

@[simp] theorem bindHead_rest (c : Option CallKey) (s : State) :
    (bindHead c s).zq.expected = s.zq.expected ∧ (bindHead c s).zq.tagWindow = s.zq.tagWindow
      ∧ (bindHead c s).zq.eye1 = s.zq.eye1 ∧ (bindHead c s).zq.eye2 = s.zq.eye2
      ∧ (bindHead c s).zq.eyeX = s.zq.eyeX ∧ (bindHead c s).zq.queue.length = s.zq.queue.length
      ∧ (bindHead c s).zq.queue.tail = s.zq.queue.tail ∧ (bindHead c s).zq.queue.isEmpty = s.zq.queue.isEmpty
      ∧ (bindHead c s).cl = { s.cl with offerCall := c } := by
  unfold bindHead; simp

@[simp] theorem count_rest (f : Counts → Counts) (s : State) :
    (count f s).sn = { s.sn with counts := f s.sn.counts } := rfl

@[simp] theorem refuseOffer_rest (z : Option Addr) (s : State) :
    (refuseOffer z s).zq.expected = s.zq.expected ∧ (refuseOffer z s).zq.tagWindow = s.zq.tagWindow
      ∧ (refuseOffer z s).zq.eye1 = s.zq.eye1 ∧ (refuseOffer z s).zq.eye2 = s.zq.eye2
      ∧ (refuseOffer z s).zq.eyeX = s.zq.eyeX ∧ (refuseOffer z s).zq.queue.length = s.zq.queue.length
      ∧ (refuseOffer z s).zq.queue.tail = s.zq.queue.tail
      ∧ (refuseOffer z s).zq.queue.isEmpty = s.zq.queue.isEmpty
      ∧ (refuseOffer z s).cl.calls = s.cl.calls ∧ (refuseOffer z s).cl.lastSerial = s.cl.lastSerial
      ∧ (refuseOffer z s).cl.stationOpen = s.cl.stationOpen ∧ (refuseOffer z s).cl.offerCall = none
      ∧ (refuseOffer z s).ex = { s.ex with
          exit := .closed, outlet := none, serial := none, gate := false, travel := none, release := none,
          holdOff := some (startTimer s holdOffMs), holdOffZone := z } := by
  unfold refuseOffer; simp [closeExit, endOffer, startTimer]

@[simp] theorem applyJudgement_rest (s : State) :
    (applyJudgement s).zq.expected = s.zq.expected ∧ (applyJudgement s).zq.tagWindow = s.zq.tagWindow
      ∧ (applyJudgement s).zq.eye1 = s.zq.eye1 ∧ (applyJudgement s).zq.eye2 = s.zq.eye2
      ∧ (applyJudgement s).zq.eyeX = s.zq.eyeX ∧ (applyJudgement s).zq.queue.length = s.zq.queue.length
      ∧ (applyJudgement s).zq.queue.tail = s.zq.queue.tail
      ∧ (applyJudgement s).zq.queue.isEmpty = s.zq.queue.isEmpty
      ∧ (applyJudgement s).sn.service = s.sn.service ∧ (applyJudgement s).sn.reason = s.sn.reason
      ∧ (applyJudgement s).sn.estop = s.sn.estop ∧ (applyJudgement s).sn.localTerm = s.sn.localTerm
      ∧ (applyJudgement s).sn.stopSet = s.sn.stopSet ∧ (applyJudgement s).sn.startHold = s.sn.startHold
      ∧ (applyJudgement s).sn.quiet = s.sn.quiet ∧ (applyJudgement s).sn.stopRepeat = s.sn.stopRepeat
      ∧ (applyJudgement s).sn.estopRelease = s.sn.estopRelease ∧ (applyJudgement s).sn.faults = s.sn.faults
      ∧ (applyJudgement s).sn.resetCause = s.sn.resetCause ∧ (applyJudgement s).sn.resets = s.sn.resets
      ∧ (applyJudgement s).sl.judgement.isSome = s.sl.judgement.isSome
      ∧ (applyJudgement s).sl.judgement.map (·.outlet) = s.sl.judgement.map (·.outlet) := by
  unfold applyJudgement; split
  · rename_i hq hj
    simp only []; split
    · simp [hj]
    split <;> simp [changeHead, hq, hj]
  · simp

@[simp] theorem prepareHead_rest (s : State) :
    (prepareHead s).zq.expected = s.zq.expected ∧ (prepareHead s).zq.tagWindow = s.zq.tagWindow
      ∧ (prepareHead s).zq.eye1 = s.zq.eye1 ∧ (prepareHead s).zq.eye2 = s.zq.eye2
      ∧ (prepareHead s).zq.eyeX = s.zq.eyeX ∧ (prepareHead s).zq.queue.length = s.zq.queue.length
      ∧ (prepareHead s).zq.queue.tail = s.zq.queue.tail ∧ (prepareHead s).zq.queue.isEmpty = s.zq.queue.isEmpty
      ∧ (prepareHead s).sn.service = s.sn.service ∧ (prepareHead s).sn.reason = s.sn.reason
      ∧ (prepareHead s).sn.estop = s.sn.estop ∧ (prepareHead s).sn.localTerm = s.sn.localTerm
      ∧ (prepareHead s).sn.stopSet = s.sn.stopSet ∧ (prepareHead s).sn.startHold = s.sn.startHold
      ∧ (prepareHead s).sn.quiet = s.sn.quiet ∧ (prepareHead s).sn.stopRepeat = s.sn.stopRepeat
      ∧ (prepareHead s).sn.estopRelease = s.sn.estopRelease ∧ (prepareHead s).sn.faults = s.sn.faults
      ∧ (prepareHead s).sn.resetCause = s.sn.resetCause ∧ (prepareHead s).sn.resets = s.sn.resets
      ∧ (prepareHead s).sl.judgement.isSome = s.sl.judgement.isSome
      ∧ (prepareHead s).cl.calls = s.cl.calls ∧ (prepareHead s).cl.lastSerial = s.cl.lastSerial ∧ (prepareHead s).cl.stationOpen = s.cl.stationOpen := by
  unfold prepareHead; split <;> simp

@[simp] theorem makeOffer_rest (o : Outlet) (z : Addr) (s : State) :
    (makeOffer o z s).zq.expected = s.zq.expected ∧ (makeOffer o z s).zq.tagWindow = s.zq.tagWindow
      ∧ (makeOffer o z s).zq.eye1 = s.zq.eye1 ∧ (makeOffer o z s).zq.eye2 = s.zq.eye2
      ∧ (makeOffer o z s).zq.eyeX = s.zq.eyeX ∧ (makeOffer o z s).zq.queue.length = s.zq.queue.length
      ∧ (makeOffer o z s).zq.queue.tail = s.zq.queue.tail
      ∧ (makeOffer o z s).zq.queue.isEmpty = s.zq.queue.isEmpty
      ∧ (makeOffer o z s).sn.service = s.sn.service ∧ (makeOffer o z s).sn.reason = s.sn.reason
      ∧ (makeOffer o z s).sn.estop = s.sn.estop ∧ (makeOffer o z s).sn.localTerm = s.sn.localTerm
      ∧ (makeOffer o z s).sn.stopSet = s.sn.stopSet ∧ (makeOffer o z s).sn.startHold = s.sn.startHold
      ∧ (makeOffer o z s).sn.quiet = s.sn.quiet ∧ (makeOffer o z s).sn.stopRepeat = s.sn.stopRepeat
      ∧ (makeOffer o z s).sn.estopRelease = s.sn.estopRelease ∧ (makeOffer o z s).sn.faults = s.sn.faults
      ∧ (makeOffer o z s).sn.resetCause = s.sn.resetCause ∧ (makeOffer o z s).sn.resets = s.sn.resets
      ∧ (makeOffer o z s).sl.judgement.isSome = s.sl.judgement.isSome
      ∧ (makeOffer o z s).cl.calls = s.cl.calls ∧ (makeOffer o z s).cl.lastSerial = s.cl.lastSerial ∧ (makeOffer o z s).cl.stationOpen = s.cl.stationOpen := by
  simp only [makeOffer]; split
  · simp
  · simp

/-- An offer that finds a place leaves EX in OFFERING under the next serial; one that finds none leaves it CLOSED with its
hold-off running (R49, R51, R145). -/
theorem makeOffer_ex (o : Outlet) (z : Addr) (s : State) :
    (makeOffer o z s).ex = { s.ex with exit := .offering, outlet := some o, serial := some (s.ex.lastSerial + 1),
                                       lastSerial := s.ex.lastSerial + 1, withdrawn := false }
    ∨ (makeOffer o z s).ex =
        { s.ex with exit := .closed, outlet := none, serial := none, lastSerial := s.ex.lastSerial + 1,
                    withdrawn := false, gate := false, travel := none, release := none,
                    holdOff := some { start := s.tb, duration := 1000 }, holdOffZone := none } := by
  simp only [makeOffer]; split
  · left; simp [takeSerial]
  · right; simp [takeSerial, startTimer, holdOffMs]

@[simp] theorem testOffer_rest (s : State) :
    (testOffer s).zq.expected = s.zq.expected ∧ (testOffer s).zq.tagWindow = s.zq.tagWindow
      ∧ (testOffer s).zq.eye1 = s.zq.eye1 ∧ (testOffer s).zq.eye2 = s.zq.eye2
      ∧ (testOffer s).zq.eyeX = s.zq.eyeX ∧ (testOffer s).zq.queue.length = s.zq.queue.length
      ∧ (testOffer s).zq.queue.tail = s.zq.queue.tail
      ∧ (testOffer s).zq.queue.isEmpty = s.zq.queue.isEmpty
      ∧ (testOffer s).sn.service = s.sn.service ∧ (testOffer s).sn.reason = s.sn.reason
      ∧ (testOffer s).sn.estop = s.sn.estop ∧ (testOffer s).sn.localTerm = s.sn.localTerm
      ∧ (testOffer s).sn.stopSet = s.sn.stopSet ∧ (testOffer s).sn.startHold = s.sn.startHold
      ∧ (testOffer s).sn.quiet = s.sn.quiet ∧ (testOffer s).sn.stopRepeat = s.sn.stopRepeat
      ∧ (testOffer s).sn.estopRelease = s.sn.estopRelease ∧ (testOffer s).sn.faults = s.sn.faults
      ∧ (testOffer s).sn.resetCause = s.sn.resetCause ∧ (testOffer s).sn.resets = s.sn.resets
      ∧ (testOffer s).sl.judgement.isSome = s.sl.judgement.isSome
      ∧ (testOffer s).cl.calls = s.cl.calls ∧ (testOffer s).cl.lastSerial = s.cl.lastSerial ∧ (testOffer s).cl.stationOpen = s.cl.stationOpen := by
  unfold testOffer; split
  · split <;> simp
  · simp

/-- An offer that is not ready changes nothing. -/
theorem testOffer_idle {s : State} (h : offerReady s = false) : testOffer s = s := by
  simp [testOffer, h]

@[simp] theorem issueCall_cl (s : State) : (issueCall s).cl.stationOpen = s.cl.stationOpen
    ∧ (issueCall s).cl.offerCall = s.cl.offerCall := by simp [issueCall]

@[simp] theorem issueCalls_cl (n : Nat) (s : State) : (issueCalls n s).cl.stationOpen = s.cl.stationOpen
    ∧ (issueCalls n s).cl.offerCall = s.cl.offerCall := by
  induction n generalizing s with
  | zero => simp [issueCalls]
  | succ n ih => unfold issueCalls; split <;> simp [ih]

@[simp] theorem withdrawCall_cl (n : Nat) (s : State) :
    (withdrawCall n s).cl = { s.cl with calls := s.cl.calls.eraseIdx n } := by
  unfold withdrawCall; split
  · rename_i h; simp [List.eraseIdx_of_length_le (List.getElem?_eq_none_iff.1 h)]
  · simp

@[simp] theorem withdrawExcess_cl (n : Nat) (s : State) : (withdrawExcess n s).cl.stationOpen = s.cl.stationOpen
    ∧ (withdrawExcess n s).cl.offerCall = s.cl.offerCall ∧ (withdrawExcess n s).cl.lastSerial = s.cl.lastSerial := by
  induction n generalizing s with
  | zero => simp [withdrawExcess]
  | succ n ih => unfold withdrawExcess; split <;> simp [ih]

@[simp] theorem withdrawAll_cl (n : Nat) (s : State) : (withdrawAll n s).cl.stationOpen = s.cl.stationOpen
    ∧ (withdrawAll n s).cl.offerCall = s.cl.offerCall ∧ (withdrawAll n s).cl.lastSerial = s.cl.lastSerial := by
  induction n generalizing s with
  | zero => simp [withdrawAll]
  | succ n ih => unfold withdrawAll; split <;> simp [ih]

@[simp] theorem testNeed_cl (s : State) : (testNeed s).cl.stationOpen = s.cl.stationOpen
    ∧ (testNeed s).cl.offerCall = s.cl.offerCall := by
  unfold testNeed; split <;> simp

/-- Only a LOAD evaluates a need. -/
theorem testNeed_other {s : State} (h : role s ≠ .load) : testNeed s = s := by simp [testNeed, h]

@[simp] theorem announce_nt (s : State) : (announce s).nt.entries = s.nt.entries := by
  unfold announce; split <;> simp [placeState]

@[simp] theorem testQuiet_sn (s : State) : 
    (testQuiet s).sn.service = s.sn.service ∧ (testQuiet s).sn.reason = s.sn.reason
    ∧ (testQuiet s).sn.estop = s.sn.estop ∧ (testQuiet s).sn.localTerm = s.sn.localTerm
    ∧ (testQuiet s).sn.stopSet = s.sn.stopSet ∧ (testQuiet s).sn.startHold = s.sn.startHold
    ∧ (testQuiet s).sn.stopRepeat = s.sn.stopRepeat ∧ (testQuiet s).sn.estopRelease = s.sn.estopRelease
    ∧ (testQuiet s).sn.faults = s.sn.faults ∧ (testQuiet s).sn.counts = s.sn.counts
    ∧ (testQuiet s).sn.resetCause = s.sn.resetCause ∧ (testQuiet s).sn.resets = s.sn.resets := by
  unfold testQuiet cancelQuiet; (repeat' split) <;> simp

/-- DC's test leaves the drive in RUN exactly when it is wanted (R59). -/
theorem testDrive_drive (s : State) : (testDrive s).dc.drive = if driveWanted s then .run else .off := by
  simp only [testDrive, setDrive]
  cases hd : s.dc.drive <;> cases hw : driveWanted s <;> simp [hd]

@[simp] theorem testDrive_dc (s : State) : (testDrive s).dc.runOn = s.dc.runOn := by
  simp only [testDrive, setDrive]
  cases hd : s.dc.drive <;> cases hw : driveWanted s <;> simp

/-! ## The tests together -/

/-- The tests of an UNCONFIGURED node do nothing. -/
theorem settle_unconfigured {s : State} (h : configured s = false) : settle s = s := by simp [settle, h]

/-- What the tests leave of each block they touch: the queue's length and all but its head, the expected list, the eyes,
the tag-read window, the neighbours, and all of SN but the quiet timer and the counts. -/
@[simp] theorem settle_rest (s : State) :
    (settle s).zq.expected = s.zq.expected ∧ (settle s).zq.tagWindow = s.zq.tagWindow
      ∧ (settle s).zq.eye1 = s.zq.eye1 ∧ (settle s).zq.eye2 = s.zq.eye2 ∧ (settle s).zq.eyeX = s.zq.eyeX
      ∧ (settle s).zq.queue.length = s.zq.queue.length ∧ (settle s).zq.queue.tail = s.zq.queue.tail
      ∧ (settle s).zq.queue.isEmpty = s.zq.queue.isEmpty
      ∧ (settle s).nt.entries = s.nt.entries ∧ (settle s).dc.runOn = s.dc.runOn
      ∧ (settle s).cl.stationOpen = s.cl.stationOpen
      ∧ (settle s).sn.service = s.sn.service ∧ (settle s).sn.reason = s.sn.reason
      ∧ (settle s).sn.estop = s.sn.estop ∧ (settle s).sn.localTerm = s.sn.localTerm
      ∧ (settle s).sn.stopSet = s.sn.stopSet ∧ (settle s).sn.startHold = s.sn.startHold
      ∧ (settle s).sn.stopRepeat = s.sn.stopRepeat ∧ (settle s).sn.estopRelease = s.sn.estopRelease
      ∧ (settle s).sn.faults = s.sn.faults ∧ (settle s).sn.resetCause = s.sn.resetCause
      ∧ (settle s).sn.resets = s.sn.resets := by
  unfold settle; split
  · simp
  · simp

end Sys2Proof.Machine
end

