-- ==== Sys2Proof/Laws/Settled.lean ====
section
/-! SUPPORT. Laws/Settled.lean: the tests of an event reach what they test for: after them the judgement, the quiet timer,
the calls, the offer, the drive and the announced STATE are as the state asks. -/

namespace Sys2Proof.Machine

/-! ## What the conditions read -/

theorem configured_of_sn {s t : State} (h : t.sn.service = s.sn.service) : configured t = configured s := by
  simp [configured, h]

@[simp] theorem settle_conditions (s : State) :
    configured (settle s) = configured s ∧ role (settle s) = role s ∧ ownZone (settle s) = ownZone s
      ∧ capacity (settle s) = capacity s ∧ inService (settle s) = inService s ∧ halted (settle s) = halted s
      ∧ headAtExit (settle s) = headAtExit s ∧ entryEyesClear (settle s) = entryEyesClear s
      ∧ quietCondition (settle s) = quietCondition s ∧ freePlaces (settle s) = freePlaces s := by
  simp [configured, role, ownZone, capacity, inService, halted, headAtExit, entryEyesClear, quietCondition, freePlaces]

/-! ## The quiet timer -/

theorem testQuiet_quiet (s : State) :
    (testQuiet s).sn.quiet.isSome = (s.sn.service == .recovering && quietCondition s) := by
  unfold testQuiet cancelQuiet
  cases hs : s.sn.service <;> cases hq : quietCondition s <;> cases ht : s.sn.quiet <;> simp [hs, ht]

theorem settle_quiet_eq {s : State} (h : configured s = true) : (settle s).sn.quiet = (testQuiet s).sn.quiet := by
  have hq : (testQuiet (formJudgement s)).sn.quiet = (testQuiet s).sn.quiet := by
    unfold testQuiet cancelQuiet
    simp [quietCondition, entryEyesClear, role, halted, startTimer]
    (repeat' split) <;> simp_all
  simp [settle, h, hq]

/-- The tests leave the quiet timer running exactly in a RECOVERING node whose quiet condition holds (R12). -/
theorem settle_quietOk {s : State} (h : configured s = true) : QuietOk (settle s) := by
  simp [QuietOk, settle_quiet_eq h, testQuiet_quiet]

/-! ## The judgement -/

theorem formJudgement_judgement (s : State) :
    (formJudgement s).sl.judgement.isSome = (s.sl.judgement.isSome || (role s == .sort && headAtExit s)) := by
  unfold formJudgement headAtExit; split
  · rename_i hq hj; split <;> simp_all
  · rename_i h
    cases hq : s.zq.queue <;> cases hj : s.sl.judgement <;> simp_all

theorem settle_judgement {s : State} (h : configured s = true) :
    (settle s).sl.judgement.isSome = (s.sl.judgement.isSome || (role s == .sort && headAtExit s)) := by
  simp [settle, h, formJudgement_judgement]

/-! ## The offer -/

theorem zoneReady_congr {s t : State} (h : t.nt.entries = s.nt.entries) : zoneReady t = zoneReady s := by
  funext z; simp [zoneReady, presentState?, neighbour?, h]

/-- The head's outlet is read from the queue, the running items, the judgement, the calls and the neighbours. -/
theorem headOutlet_congr {s t : State} (hq : t.zq.queue = s.zq.queue) (hs : t.ss = s.ss) (hl : t.sl = s.sl)
    (hc : t.cl.calls = s.cl.calls) (hn : t.nt.entries = s.nt.entries) : headOutlet t = headOutlet s := by
  simp [headOutlet, spurChoice, role, hq, hs, hl, hc, zoneReady_congr hn]

/-- The offer condition is read from those, the exit eye, the service state, the halt terms, the exit state and the
hold-off (R48). -/
theorem offerReady_congr {s t : State} (hz : t.zq = s.zq) (hs : t.ss = s.ss) (hl : t.sl = s.sl)
    (hc : t.cl.calls = s.cl.calls) (hn : t.nt.entries = s.nt.entries) (hx : t.ex = s.ex) (hsn : t.sn = s.sn) :
    offerReady t = offerReady s := by
  simp [offerReady, headOutlet_congr (congrArg ZoneQueue.queue hz) hs hl hc hn, zoneReady_congr hn, headAtExit,
    inService, halted, hz, hs, hx, hsn]

/-- The STATE body is read from the same and the drive (R66). -/
theorem ownBody_congr {s t : State} (hz : t.zq = s.zq) (hs : t.ss = s.ss) (hl : t.sl = s.sl)
    (hc : t.cl.calls = s.cl.calls) (hn : t.nt.entries = s.nt.entries) (hx : t.ex = s.ex) (hsn : t.sn = s.sn)
    (hd : t.dc = s.dc) : ownBody t = ownBody s := by
  simp [ownBody, stateFlags, waitedFor, headOutlet_congr (congrArg ZoneQueue.queue hz) hs hl hc hn, headAtExit,
    inService, halted, freePlaces, capacity, hz, hs, hx, hsn, hd]

theorem announce_offerReady (s : State) : offerReady (announce s) = offerReady s := by
  apply offerReady_congr <;> simp

theorem testDrive_offerReady (s : State) : offerReady (testDrive s) = offerReady s := by
  apply offerReady_congr <;> simp

theorem offerReady_exit {s : State} (h : s.ex.exit ≠ .closed) : offerReady s = false := by
  simp [offerReady, h]

theorem offerReady_holdOff {s : State} (h : s.ex.holdOff.isSome = true) : offerReady s = false := by
  cases hh : s.ex.holdOff <;> simp_all [offerReady]

/-- After EX's test no offer is due (R48). -/
theorem testOffer_offerReady (s : State) : offerReady (testOffer s) = false := by
  unfold testOffer; split
  · split
    · simp_all [offerReady]
    · rename_i o _
      rcases makeOffer_ex o ((outletZone s.ss.running o).getD 0) s with h | h
      · exact offerReady_exit (by rw [h]; simp)
      · exact offerReady_holdOff (by rw [h]; rfl)
  · simp_all

theorem settle_offerReady {s : State} (h : configured s = true) : offerReady (settle s) = false := by
  simp [settle, h, announce_offerReady, testDrive_offerReady, testOffer_offerReady]

/-! ## The drive -/

theorem announce_driveWanted (s : State) : driveWanted (announce s) = driveWanted s := by
  simp [driveWanted, headAtExit, inService, halted, role]

theorem testDrive_driveWanted (s : State) : driveWanted (testDrive s) = driveWanted s := by
  simp [driveWanted, headAtExit, inService, halted, role]

/-- The tests leave the drive in RUN exactly when it is wanted (R59, R61). -/
theorem settle_driveOk {s : State} (h : configured s = true) : DriveOk (settle s) := by
  simp [DriveOk, settle, h, announce_driveWanted, testDrive_driveWanted, testDrive_drive]

/-! ## The announced STATE -/

theorem announce_ownBody (s : State) : ownBody (announce s) = ownBody s := by
  apply ownBody_congr <;> simp

theorem placeState_ownBody (s : State) : ownBody (placeState s) = ownBody s := by
  apply ownBody_congr <;> simp [placeState]

theorem announce_announced {s : State} (h : configured s = true) : (announce s).nt.announced = some (ownBody s) := by
  unfold announce; split
  · simp [placeState]
  · simp_all

/-- The tests leave the STATE announced as the body stands (R67). -/
theorem settle_announced {s : State} (h : configured s = true) :
    (settle s).nt.announced = some (ownBody (settle s)) := by
  have hc : configured (testDrive (testOffer (testNeed (testQuiet (formJudgement s))))) = true := by
    simpa [configured] using h
  simp only [settle, h, if_true]
  rw [announce_announced hc, announce_ownBody]

/-! ## The station's calls -/

@[simp] theorem targetEmpties_of_ss {s t : State} (h : t.ss = s.ss) : targetEmpties t = targetEmpties s := by
  simp [targetEmpties, h]

/-- An issued call adds one entry at the tail and raises the sum by 1 (R128). -/
theorem issueCall_calls (s : State) : ∃ e : CallEntry, (issueCall s).cl.calls = s.cl.calls ++ [e]
    ∧ e.key.station = (runningStation s.ss.running).getD 0 ∧ e.lastHeard = s.tb
    ∧ e.timer = some { start := s.tb, duration := 20000 } ∧ (issueCall s).cl.lastSerial = e.key.serial
    ∧ e.key.serial = nextCallSerial s.cl.calls s.cl.calls.length s.cl.lastSerial := by
  simp [issueCall, startTimer, callRepeatMs]

theorem issueCall_sum (s : State) : stationSum (issueCall s) = stationSum s + 1 := by
  obtain ⟨e, he, -⟩ := issueCall_calls s
  simp only [stationSum, he, issueCall_frame, List.length_append, List.length_singleton]; omega

/-- Issuing brings the sum of an open station up to the target and no higher. -/
theorem issueCalls_sum (n : Nat) (s : State) :
    (s.cl.stationOpen = true → targetEmpties s ≤ stationSum s + n → targetEmpties s ≤ stationSum (issueCalls n s))
      ∧ stationSum (issueCalls n s) ≤ max (stationSum s) (targetEmpties s)
      ∧ (targetEmpties s ≤ stationSum s ∨ s.cl.stationOpen = false → issueCalls n s = s) := by
  induction n generalizing s with
  | zero => simp [issueCalls]
  | succ n ih =>
    have hi := ih (issueCall s)
    have ht : targetEmpties (issueCall s) = targetEmpties s := targetEmpties_of_ss (by simp)
    simp only [issueCall_sum, ht, issueCall_cl] at hi
    unfold issueCalls; split
    · rename_i h
      simp only [Bool.and_eq_true, decide_eq_true_eq] at h
      refine ⟨fun ho hn => hi.1 ho (by omega), by omega, ?_⟩
      rintro (h2 | h2)
      · omega
      · simp [h2] at h
    · rename_i h
      simp only [Bool.and_eq_true, decide_eq_true_eq, not_and, not_lt] at h
      exact ⟨fun ho _ => h ho, by omega, fun _ => rfl⟩

theorem withdrawCall_sum {n : Nat} {s : State} (h : n < s.cl.calls.length) :
    stationSum (withdrawCall n s) + 1 = stationSum s := by
  simp only [stationSum, withdrawCall_cl, withdrawCall_frame, List.length_eraseIdx, h, if_true]; omega

/-- Withdrawing the excess ends with no excess or with no call (R130), and takes the newest calls alone. -/
theorem withdrawExcess_sum (n : Nat) (s : State) (hn : s.cl.calls.length ≤ n) :
    (targetEmpties s < stationSum (withdrawExcess n s) → (withdrawExcess n s).cl.calls = [])
      ∧ (∃ rest, s.cl.calls = (withdrawExcess n s).cl.calls ++ rest)
      ∧ (stationSum s ≤ targetEmpties s → withdrawExcess n s = s) := by
  induction n generalizing s with
  | zero =>
    have : s.cl.calls = [] := List.length_eq_zero_iff.1 (by omega)
    simp [withdrawExcess, this]
  | succ n ih =>
    unfold withdrawExcess; split
    · rename_i h
      simp only [Bool.and_eq_true, decide_eq_true_eq, Bool.not_eq_true'] at h
      have hne : s.cl.calls ≠ [] := by intro he; simp [he] at h
      have hpos : 0 < s.cl.calls.length := List.length_pos_iff.2 hne
      have hc : (withdrawCall (s.cl.calls.length - 1) s).cl.calls = s.cl.calls.dropLast := by
        simp [List.eraseIdx_length_sub_one]
      have hi := ih (withdrawCall (s.cl.calls.length - 1) s) (by rw [hc]; simp; omega)
      have ht : targetEmpties (withdrawCall (s.cl.calls.length - 1) s) = targetEmpties s :=
        targetEmpties_of_ss (by simp)
      rw [ht, hc] at hi
      refine ⟨hi.1, ?_, fun h2 => by omega⟩
      obtain ⟨rest, hr⟩ := hi.2.1
      exact ⟨rest ++ [s.cl.calls.getLast hne], by
        rw [← List.append_assoc, ← hr, List.dropLast_append_getLast]⟩
    · rename_i h
      simp only [Bool.and_eq_true, decide_eq_true_eq, Bool.not_eq_true', not_and] at h
      refine ⟨fun h2 => ?_, ⟨[], by simp⟩, fun _ => rfl⟩
      have := h h2
      simpa using this

/-- After CL's test the need of a LOAD is met (R128, R130). -/
theorem testNeed_need {s : State} (hr : role s = .load) (hc : configured s = true) :
    (s.cl.stationOpen = true → targetEmpties s ≤ stationSum (testNeed s))
      ∧ (targetEmpties s < stationSum (testNeed s) → (testNeed s).cl.calls = [])
      ∧ (s.cl.stationOpen = false → s.cl.calls = [] → (testNeed s).cl.calls = []) := by
  have ht : ∀ n, targetEmpties (withdrawExcess n s) = targetEmpties s := fun n => targetEmpties_of_ss (by simp)
  obtain ⟨w1, ⟨rest, w2⟩, w3⟩ := withdrawExcess_sum s.cl.calls.length s (le_refl _)
  have hi := issueCalls_sum (targetEmpties s) (withdrawExcess s.cl.calls.length s)
  rw [ht] at hi
  simp only [testNeed, hr, hc, decide_true, Bool.and_self, if_true, ht]
  refine ⟨fun ho => hi.1 (by simpa using ho) (by omega), fun h => ?_, fun ho he => ?_⟩
  · have : targetEmpties s < stationSum (withdrawExcess s.cl.calls.length s) := by omega
    rw [hi.2.2 (.inl (by omega))]; exact w1 this
  · rw [hi.2.2 (.inr (by simpa using ho))]
    exact (List.append_eq_nil_iff.1 (w2.symm.trans he)).1

theorem refuseOffer_contents (z : Option Addr) (s : State) :
    (refuseOffer z s).zq.queue.map (·.content) = s.zq.queue.map (·.content) := by
  simpa [refuseOffer, closeExit, endOffer] using unbindOffer_contents _ s

/-- EX's test changes no content but at a SORT (R49, R112). -/
theorem testOffer_contents {s : State} (h : role s ≠ .sort) :
    (testOffer s).zq.queue.map (·.content) = s.zq.queue.map (·.content) := by
  have hp : (prepareHead s).zq.queue.map (·.content) = s.zq.queue.map (·.content) := by
    unfold prepareHead; split <;> first | rfl | skip
    · unfold changeHead; split <;> simp_all [freezeRecord]
    · exact absurd ‹_› h
    · simp only [bindHead]; unfold changeHead; split <;> simp_all
  unfold testOffer; split
  · split
    · rfl
    · simp only [makeOffer]; split
      · simpa [takeSerial] using hp
      · rw [refuseOffer_contents]; simpa [takeSerial] using hp
  · rfl

/-- The count of EMPTY records is read from the contents. -/
theorem emptyCount_of_contents {q r : List RackRecord} (h : q.map (·.content) = r.map (·.content)) :
    q.countP (fun x => x.content == .empty) = r.countP (fun x => x.content == .empty) := by
  have hm : ∀ l : List RackRecord,
      l.countP (fun x => x.content == .empty) = (l.map (·.content)).countP (· == .empty) := by
    intro l; rw [List.countP_map]; rfl
  rw [hm, hm, h]

/-- The tests leave a LOAD with the calls it needs and none too many (R128, R130, R131). -/
theorem settle_needOk {s : State} (h : s.cl.stationOpen = false → s.cl.calls = []) : NeedOk (settle s) := by
  intro hr hc
  simp only [settle_conditions] at hr hc
  have hd : ∀ u : State, stationSum (announce (testDrive u)) = stationSum u := by
    intro u; simp [stationSum]
  have ho : ∀ u : State, role u = .load → stationSum (testOffer u) = stationSum u := by
    intro u hu
    have := emptyCount_of_contents (testOffer_contents (s := u) (by simp [hu]))
    simp [stationSum, this]
  have hu : role (testNeed (testQuiet (formJudgement s))) = .load := by simpa [role] using hr
  have hn := testNeed_need (s := testQuiet (formJudgement s)) (by simpa [role] using hr)
    (by simpa [configured] using hc)
  have hst : stationSum (settle s) = stationSum (testNeed (testQuiet (formJudgement s))) := by
    simp only [settle, hc, if_true, hd, ho _ hu]
  have hcl : (settle s).cl.calls = (testNeed (testQuiet (formJudgement s))).cl.calls := by
    simp [settle, hc]
  have ht : targetEmpties (settle s) = targetEmpties (testQuiet (formJudgement s)) :=
    targetEmpties_of_ss (by simp)
  rw [hst, hcl, ht]
  simp only [settle_rest, testQuiet_frame, formJudgement_frame] at hn ⊢
  exact ⟨hn.1, hn.2.1, fun ho => hn.2.2 ho (h ho)⟩

end Sys2Proof.Machine
end

