-- ==== Sys2Proof/Tests/Slice0.lean ====
section
/-! SUPPORT. Tests/Slice0.lean: what a well-formed command may not be, one-step tests whose expected values stand in the
spec's own examples and tables, and for each obligation a state and operands that meet its hypotheses. -/

namespace Sys2Proof.Tests

open Sys2Proof Sys2Proof.Machine

/-! ## Nodes -/

/-- A set of items from a list of them, a later value replacing an earlier one. -/
def items (l : List (Item × Word16)) : Items := l.foldl (fun c p => setItem c p.1 (some p.2)) Items.unset

/-- The items every node of these tests has: zone 14 on the wash side with capacity 4, upstream 13 and outlet 1 at 15. -/
def common (role : Word16) : List (Item × Word16) :=
  [(.zoneNumber, 14), (.role, role), (.side, 0), (.capacity, 4), (.upstream1, 13), (.outlet1, 15), (.iSpan, 5000),
   (.iJam, 4000), (.arrivalWindow, 8), (.releaseLimit, 4), (.diverterTravel, 600), (.runOn, 3), (.quietTime, 6),
   (.tagReader, 1), (.samplePeriod, 200), (.maximumPasses, 2)]

/-- A running timer of a duration that is due at TB 5000. -/
def due (ms : Nat) : Timer := { start := 5000 - BitVec.ofNat 32 ms, duration := ms }

/-- A SERVING node at TB 5000 that hears the released line and is not halted, with its items. -/
def node (role : Word16) (more : List (Item × Word16)) : State :=
  { State.reset with
    tb := 5000
    li := { LineInterface.reset with line := .released, recessiveRun := 10, awaitRelease := false }
    sn := { State.reset.sn with service := .serving, reason := none, startHold := none }
    ss := { State.reset.ss with running := items (common role ++ more) } }

/-- A record with a tag and a content. -/
def rack (tag : BitVec 12) (content : Content) : RackRecord :=
  { tag := some tag, content := content, origin := none, washes := 0, bound := none, results := [] }

/-- An expected entry from a zone under a serial. -/
def coming (zone : Addr) (serial : Byte) : ExpectedEntry :=
  { record := rack 9 .soiled, upstream := zone, serial := serial, window := some (due 8000) }

/-- A STATE body that shows SERVING, not halted, with free places. -/
def showing (free : Byte) : StateBody :=
  { service := 2, flags := 0, free := free, queue := 0, expected := 0, waited := 0 }

/-- A STATE body that shows its head waiting for a zone. -/
def waitingFor (zone : Byte) : StateBody :=
  { service := 2, flags := 4, free := 0, queue := 1, expected := 0, waited := zone }

/-- A neighbour heard with a body. -/
def heard (zone : Addr) (b : StateBody) : Neighbour :=
  { zone := zone, last := some b, lastHeard := some 4900, presence := .present, silence := some (due 1500) }

/-- A node with records, its head at the exit. -/
def atExit (queue : List RackRecord) (s : State) : State := { s with zq := { s.zq with queue := queue, eyeX := true } }

/-- A node with an expected list. -/
def expecting (l : List ExpectedEntry) (s : State) : State := { s with zq := { s.zq with expected := l } }

/-- A node with a neighbour table. -/
def hearing (l : List Neighbour) (s : State) : State := { s with nt := { s.nt with entries := l } }

/-- A node that is sending a frame, and no other is in its list. -/
def sending (f : Frame) (attempts : Nat) (s : State) : State :=
  { s with li := { s.li with tx := [{ frame := f, attempts := attempts, sending := true, replacement := none }] } }

/-- A node with an offer in OFFERING to outlet 1 under serial 41. -/
def offering (o : Outlet) (s : State) : State :=
  { s with ex := { s.ex with exit := .offering, outlet := some o, serial := some 41, lastSerial := 41 } }

/-- A PASS of the node of these tests to a zone. -/
def passTo (zone : Addr) : Frame :=
  { kind := .pass, source := 14, target := zone, body := passBody 41 (rack 7 .soiled) }

/-- A frame of nine octets of zeros but for the serial, as a PASS body. -/
def plainBody : List Byte := [41, 0, 7, 1, 3, 0, 0, 0, 0]

/-- The state after a command. -/
def after (c : Instr) (s : State) : State :=
  match exec c s with
  | .next t => t
  | .fault _ => s
  | .refused _ => s

def feed : State := node 0 []
def merge (mode : Word16) : State := node 1 [(.upstream2, 12), (.mergeMode, mode)]
def load : State := node 2 [(.station, 4), (.targetEmpties, 2), (.side, 1)]
/-- The WASH zone of section 6.8: span 0 to 100.0 °C, thresholds 80.0 and 85.0 °C, required credit 1,000. -/
def wash : State :=
  let s := node 3 [(.tLo, 1000), (.tHi, 2000), (.stage, 4), (.requiredCredit, 1000), (.tMin, 1800), (.tFull, 1850)]
  { s with su := { s.su with period := some (due 200) } }
/-- The SORT zone of sections 3.7 and 7.4. -/
def sort : State :=
  hearing [heard 47 (showing 2), heard 60 (showing 2), heard 58 (showing 0)]
    (node 4 [(.zoneNumber, 46), (.upstream1, 44), (.outlet1, 47), (.position1, 0), (.outlet2, 60), (.position2, 1),
      (.outlet3, 58), (.position3, 2), (.requiredStages, 15)])
def unload (cleanRequired : Word16) : State := node 5 [(.cleanRequired, cleanRequired), (.side, 1)]
/-- Spur 53 of section 8.5: station 1, with stations 2 and 3 downstream. -/
def spur : State :=
  hearing [heard 54 (showing 2), heard 55 (showing 2)]
    (node 6 [(.outlet1, 55), (.outlet2, 54), (.position2, 1), (.station, 1), (.downstreamStations, 6), (.side, 1)])

/-- A call of a station under a serial. -/
def call (st : Station) (serial : Byte) : CallEntry :=
  { key := { station := st, serial := serial }, lastHeard := 4000, timer := some (due 60000) }

/-- A node with a call list. -/
def calling (l : List CallEntry) (s : State) : State := { s with cl := { s.cl with calls := l } }

/-- A stage result. -/
def result (stage credit : Nat) (v : Verdict) : StageResult :=
  { stage := stage, credit := credit, verdict := v, faultSeen := false }

/-- A record in a WASH zone with its PENDING entry at a credit. -/
def rinsed (credit : Nat) (fault : Bool) : RackRecord :=
  { rack 1201 .soiled with results := [{ result 4 credit .pending with faultSeen := fault }] }

/-! ## Well-formed commands -/

theorem test_pass_of_ten_octets_is_ill_formed :
    (Instr.passReceived 13 14 (List.replicate 10 0)).wellFormed = false := by decide
theorem test_source_0_is_ill_formed : (Instr.stopReceived 0).wellFormed = false := by decide
theorem test_source_0_of_an_enquiry_is_ill_formed : (Instr.askStatus 0 14 0).wellFormed = false := by decide
theorem test_reply_of_27_octets_is_ill_formed :
    (Instr.replyReceived 13 61 (List.replicate 27 0)).wellFormed = false := by decide
theorem test_topic_inside_the_range_is_ill_formed :
    (Instr.askTopicOutsideRange 61 14 7 0).wellFormed = false := by decide
theorem test_length_field_off_the_body_is_ill_formed :
    (Instr.receiveError { frame := { kind := .stop, source := 13, target := 0, body := [1] }, length := 0,
                          check := 0 }).wellFormed = false := by decide
theorem test_ignored_frame_of_29_octets_is_ill_formed :
    (Instr.frameIgnored { kind := .reserved, source := 13, target := 0,
                          body := List.replicate 29 0 }).wellFormed = false := by decide
theorem test_commands_of_the_sequences_are_well_formed :
    ((Instr.passReceived 13 14 plainBody).wellFormed && (Instr.askTopicOutsideRange 61 14 8 0).wellFormed
      && (Instr.tagRead 65535).wellFormed) = true := by decide
theorem test_no_row_gives_bits : decodeTableWord 8 0 = none := by decide

/-! ## Arithmetic, from the rules' own examples -/

/-- R30. -/
theorem test_free_places :
    (freePlaces (expecting [coming 13 1] (atExit [rack 1 .soiled, rack 2 .soiled] feed)),
      freePlaces (atExit (List.replicate 4 (rack 1 .soiled)) (node 0 [(.capacity, 3)]))) = (1, 0) := by decide
/-- R96. -/
theorem test_currents : [2867, 4090, 5, 4095, 9].map (fun c => currentOf 5000 (BitVec.ofNat 12 c))
    = [3500, 5000, 5000, 5000, 10] := by decide
/-- R97. -/
theorem test_temperatures : (temperatureOf 0 1000 3481, temperatureOf 0 1000 3256, temperatureOf (-200) 1200 2048)
    = (850, 795, 500) := by decide
/-- R102. -/
theorem test_weights : [840, 805, 801, 800, 850, 795].map (sampleWeight 800 850) = [800, 100, 20, 0, 1000, 0] := by
  decide
/-- Section 6.8: P 300 ms at 83.3 °C. -/
theorem test_increment : sampleIncrement (sampleWeight 800 850 833) 300 = 198 := by decide
/-- R103. -/
theorem test_credit_saturates :
    (addCredit 200 (result 4 65400 .pending)).credit = 65535 ∧ (addCredit 200 (result 4 60000 .pending)).credit = 60200 := by
  decide
/-- R111: the default of two passes. -/
theorem test_judged_outlets :
    ((judge [1] 2 (rack 1 .soiled)).outlet, (judge [1] 2 { rack 1 .soiled with washes := 1 }).outlet,
      (judge [1] 1 (rack 1 .soiled)).outlet, (judge [1] 3 { rack 1 .soiled with washes := 2 }).outlet)
      = (.two, .three, .three, .three) := by decide
/-- R143, worked by hand: a run of four is followed by the other level, which starts a new run. -/
theorem test_insertion : insertBits [false, false, false, false, true, true, true, true]
    = [false, false, false, false, true, true, true, true, false, true] := by decide
theorem test_five_recessive_bits : removeBits [true, true, true, true, true] = .insertionError := by decide
theorem test_six_dominant_bits : removeBits (true :: abortBits) = .abortMark := by decide
theorem test_five_dominant_bits : removeBits [false, false, false, false, false, true] = .insertionError := by decide

set_option maxRecDepth 20000 in
/-- R142, against the published check value of this generator and start value for the nine digits 1 to 9. -/
theorem test_check : crc (([0x31, 0x32, 0x33, 0x34, 0x35, 0x36, 0x37, 0x38, 0x39] : List Byte).flatMap fieldBits)
    = 0x29B1 := by decide

/-! ## One step, from the worked sequences -/

/-- Section 1.6 at 0 ms: a valid store gives RECOVERING, halted by the start hold. -/
theorem test_power_reset :
    let t := after .powerReset { State.reset with ss := { State.reset.ss with store := items (common 0) } }
    t.sn.service = .recovering ∧ halted t = true ∧ t.ex.exit = .closed ∧ t.li.tx.length = 1 := by decide
/-- R161: a WASH zone without its thresholds is UNCONFIGURED, for row 4. -/
theorem test_pin_reset_of_an_invalid_store :
    let t := after .pinReset { State.reset with ss := { State.reset.ss with store := items (common 3) } }
    t.sn.service = .unconfigured ∧ t.sn.reason.map (·.row) = some 4 ∧ t.sn.resets = 1 := by decide
theorem test_resetn : drivePin (after .resetnAsserted { feed with dc := { feed.dc with drive := .run } }) = false := by
  decide
/-- Section 1.6 at 20 ms. -/
theorem test_stray_at_the_exit :
    let t := after .exitEyeBlocked feed
    t.zq.queue.map (·.content) = [.unknown] ∧ t.sn.counts.strays = 1 := by decide
/-- Section 1.6 at 2000 ms: the start hold ends and the head is offered. -/
theorem test_start_hold_ends :
    let s := hearing [heard 15 (showing 2)] (atExit [rack 1 .unknown] feed)
    let t := after .startHoldExpiry { s with sn := { s.sn with service := .recovering, startHold := some (due 2000) } }
    t.dc.drive = .run ∧ t.ex.exit = .offering := by decide
/-- Section 1.6 at 2010 ms. -/
theorem test_ack_opens_the_gate :
    let t := after (.replySlotRead true false) (offering .one (sending (passTo 15) 0 (atExit [rack 7 .soiled] feed)))
    t.ex.exit = .releasing ∧ gatePin t = true := by decide
/-- Section 1.6 at 2620 ms: the queue empties, and run-on and the quiet timer start. -/
theorem test_release_ends :
    let s := atExit [rack 7 .soiled] feed
    let t := after .exitEyeClear { s with
      ex := { s.ex with exit := .releasing, outlet := some .one, serial := some 41, gate := true, release := some (due 4000) }
      sn := { s.sn with service := .recovering } }
    t.zq.queue = [] ∧ t.sn.counts.released = 1 ∧ t.dc.runOn.isSome = true ∧ t.sn.quiet.isSome = true := by decide
/-- Section 1.6 at 8620 ms. -/
theorem test_quiet_timer_ends :
    let t := after .quietTimerExpiry { feed with sn := { feed.sn with service := .recovering, quiet := some (due 6000) } }
    t.sn.service = .serving ∧ t.dc.drive = .off := by decide
/-- Section 1.7 at step 1. -/
theorem test_third_high_sample_is_a_jam :
    let s := { atExit [rack 1 .soiled] feed with
      dc := { feed.dc with drive := .run, high := 2 }, su := { feed.su with period := some (due 200) } }
    let t := after (.sampleCompletion 2000 4090) s
    t.sn.service = .faulted ∧ t.dc.drive = .off ∧ t.sn.faults.jam.map (·.value) = some 5000 := by decide
/-- Section 1.7 at steps 3 and 4. -/
theorem test_clear_recovers :
    (after (.clear 61 14 1) { feed with sn := { feed.sn with
      service := .faulted, faults := { Faults.clear with jam := some ⟨0, 0, 5000, some (due 10000)⟩ } } }).sn.service
      = .recovering := by decide
theorem test_go_restarts_the_window :
    let s := expecting [{ coming 13 1 with window := none }] feed
    ((after (.goReceived 61) { s with sn := { s.sn with stopSet := [61] } }).zq.expected.map (·.window))
      = [some { start := 5000, duration := 8000 }] := by decide
theorem test_stop_stops_the_window :
    let t := after (.stopReceived 61) (expecting [coming 13 1] feed)
    t.zq.expected.map (·.window) = [none] ∧ t.sn.stopSet = [61] := by decide
/-- Section 1.7 at step 5: an arrival, not a stray. -/
theorem test_arrival :
    let t := after (.entryEyeBlocked .one) (expecting [coming 13 1] feed)
    t.zq.queue.map (·.tag) = [some 9] ∧ t.sn.counts.strays = 0 ∧ t.zq.expected = [] := by decide
/-- R40. -/
theorem test_ninth_rack_is_overfull :
    let s := { feed with zq := { feed.zq with queue := List.replicate 8 (rack 1 .soiled) } }
    (after (.entryEyeBlocked .one) s).sn.faults.overfull.map (·.value) = some 1 := by decide
theorem test_entry_eye_clears : (after (.entryEyeClear .one) (after (.entryEyeBlocked .one) feed)).zq.eye1 = false := by
  decide
/-- R42 to R44. -/
theorem test_tag_read :
    let s := { feed with zq := { feed.zq with queue := [rack 5 .soiled, rack 6 .soiled], tagWindow := some (due 1000) } }
    (after (.tagRead 4095) s).zq.queue.map (·.tag) = [some 5, some 4095] := by decide
/-- Section 3.7 at 350 ms: the judgement is applied and the PASS placed under serial 41. -/
theorem test_offer_to_the_rewash_spur :
    let s := sort
    let t := after .exitEyeBlocked { s with
      zq := { s.zq with queue := [rack 1202 .soiled] }, ex := { s.ex with lastSerial := 40 } }
    t.ex.serial = some 41 ∧ t.zq.queue = [{ rack 1202 .soiled with washes := 1 }] ∧ t.sn.counts.rewashes = 1
      ∧ waitedFor t = 60 := by decide
/-- Section 3.7 at 362 ms. -/
theorem test_hold_starts_the_hold_off :
    let t := after (.replySlotRead true true)
      (offering .one (sending (passTo 15) 0 (atExit [rack 7 .soiled] feed)))
    t.ex.exit = .closed ∧ t.ex.holdOffZone = some 15 := by decide
/-- Section 3.7 at 480 ms: no free place does not end the hold-off. -/
theorem test_full_neighbour_keeps_the_hold_off :
    let s := hearing [heard 15 (showing 2)] feed
    (after (.stateReceived 15 (showing 0)) { s with ex := { s.ex with
      holdOff := some (due 1000), holdOffZone := some 15 } }).ex.holdOff.isSome = true := by decide
/-- Section 3.7 at 911 ms and 1511 ms. -/
theorem test_switching :
    let s := { sort with ex := { sort.ex with settled := true } }
    let t := after (.replySlotRead true false) (offering .two (sending (passTo 60) 0 (atExit [rack 7 .soiled] s)))
    t.ex.exit = .switching ∧ diverterPins t = (false, true)
      ∧ t.ex.travel = some { start := 5000, duration := 600 } := by decide
theorem test_travel_ends :
    let s := offering .two (atExit [rack 7 .soiled] sort)
    let t := after .diverterTravelExpiry { s with ex := { s.ex with exit := .switching, travel := some (due 600) } }
    t.ex.exit = .releasing ∧ t.ex.release = some { start := 5000, duration := 4000 } := by decide
/-- R57. -/
theorem test_release_sticks :
    let s := offering .one (atExit [rack 7 .soiled] feed)
    let t := after .releaseLimitExpiry { s with ex := { s.ex with exit := .releasing, gate := true, release := some (due 4000) } }
    t.sn.faults.exitStuck.map (·.detail) = some 15 ∧ t.ex.gate = false ∧ t.zq.queue.length = 1 := by decide
/-- Sections 5.6, step 2, and 5.7, step 2. -/
theorem test_priority_holds_upstream_2 :
    let s := hearing [heard 13 (waitingFor 14), heard 12 (waitingFor 14)] (merge 1)
    (after (.passReceived 12 14 plainBody) s).li.slot = .hold := by decide
theorem test_alternate_passes_the_turn :
    let s := hearing [heard 13 (waitingFor 14), heard 12 (waitingFor 14)] (merge 0)
    let t := after (.passReceived 13 14 plainBody) s
    t.li.slot = .ack ∧ t.ma.turn = .two := by decide
/-- Section 6.8, sample 3. -/
theorem test_sample_3 :
    (after (.sampleCompletion 3440 100) { wash with zq := { wash.zq with queue := [rinsed 400 false] } }).zq.queue
      = [rinsed 560 false] := by decide
/-- Section 6.9, step 9: the freeze. -/
theorem test_freeze_with_a_fault_seen :
    let s := hearing [heard 15 (showing 2)] wash
    ((after .exitEyeBlocked { s with zq := { s.zq with queue := [rinsed 1260 true] } }).zq.queue.flatMap (·.results)).map
      (·.verdict) = [.probeLost] := by decide
/-- Section 6.10, step 3. -/
theorem test_third_faulted_sample :
    let t := after (.sampleCompletion 4095 100) { wash with su := { wash.su with faultCount := 2 } }
    t.sn.faults.probe.map (·.value) = some 4095 ∧ t.sn.service = .serving := by decide
/-- Section 7.4, step 5: the reject table is full and the head waits. -/
theorem test_reject_waits :
    let t := after .exitEyeBlocked { sort with zq := { sort.zq with queue := [{ rack 877 .soiled with washes := 1 }] } }
    t.ex.exit = .closed ∧ waitedFor t = 58 ∧ t.sn.counts.rejects = 0 := by decide
/-- Section 7.6, steps 2 and 5. -/
theorem test_rack_empty_press :
    (after .rackEmptyPress (atExit [{ rack 1201 .clean with origin := some 3, washes := 1 }] (unload 1))).zq.queue
      = [rack 1201 .empty] := by decide
theorem test_unload_refused :
    let t := after .rackEmptyPress (atExit [rack 5 .unknown] (unload 1))
    t.zq.queue = [rack 5 .unknown] ∧ t.li.tx.any (fun e => e.frame.body == [16, 0, 0, 5, 0, 4]) = true := by decide
/-- R119: behind a withdrawn offer, a head with no outlet waits for no zone. -/
theorem test_no_outlet_waits_for_no_zone :
    let s := offering .one (atExit [rack 5 .clean] (unload 1))
    waitedFor { s with ex := { s.ex with withdrawn := true } } = 0
      ∧ waitedFor (offering .one (atExit [rack 5 .empty] (unload 1))) = 15 := by decide
/-- Section 8.5 at 0 s: the press lowers the EMPTY records and a call is issued. -/
theorem test_press_issues_a_call :
    let s := { load with
      zq := { load.zq with queue := [rack 1 .empty, rack 2 .empty] }
      cl := { load.cl with stationOpen := true, lastSerial := 6 } }
    let t := after .rackFullPress s
    t.cl.calls.map (·.key) = [{ station := 4, serial := 7 }] ∧ t.zq.queue.map (·.content) = [.soiled, .empty] := by decide
theorem test_closing_withdraws :
    (after .stationClosed (calling [call 4 7] { load with cl := { load.cl with stationOpen := true } })).cl.calls = [] := by
  decide
/-- Section 8.5 at 9 s and 16 s. -/
theorem test_older_downstream_call_goes_first :
    spurChoice (calling [call 2 7, call 1 12] spur) (rack 2044 .empty) = (.one, none) := by decide
theorem test_own_call_is_served :
    spurChoice (calling [call 1 12] spur) (rack 615 .empty) = (.two, some { station := 1, serial := 12 }) := by decide
/-- Section 8.5 at 14 s. -/
theorem test_answer :
    let s := calling [call 1 12] (offering .two (sending (passTo 54) 0 (atExit [rack 615 .empty] spur)))
    let t := after (.replySlotRead true false) { s with cl := { s.cl with offerCall := some { station := 1, serial := 12 } } }
    t.cl.calls = [] ∧ t.sn.counts.answered = 1
      ∧ t.li.tx.any (fun e => e.frame.kind == .answer && e.frame.body == [1, 12, 2, 103]) = true := by decide
/-- Section 8.6, order A: a call that is outstanding no longer makes the rack surplus. -/
theorem test_surplus :
    (after (.passReceived 13 14 [61, 6, 197, 0, 0, 0, 4, 8, 0]) load).sn.counts.surplus = 1 := by decide
theorem test_call_is_stored : (after (.callReceived 20 2 7) spur).cl.calls.map (·.key) = [{ station := 2, serial := 7 }] := by
  decide
/-- Section 9.7, step 2: an empty reply slot counts an attempt. -/
theorem test_no_reply :
    (after (.replySlotRead false false) (offering .one (sending (passTo 15) 0 feed))).li.tx.map (·.attempts) = [1] := by
  decide
/-- Section 9.7, step 3: a halted node recalls what was acknowledged. -/
theorem test_halted_ack_is_recalled :
    let s := offering .one (sending (passTo 15) 1 (atExit [rack 7 .soiled] feed))
    let t := after (.replySlotRead true false) { s with sn := { s.sn with stopSet := [9] } }
    t.ex.exit = .closed ∧ t.li.tx.any (fun e => e.frame.kind == .recall && e.frame.body == [41]) = true := by decide
/-- R145: the lower kind code is sent first. -/
theorem test_lower_kind_first :
    let s := { feed with li := { feed.li with tx := [freshEntry (passTo 15), freshEntry (ownFrame feed .stop 0 [])] } }
    (after .frameSendStart s).li.tx.map (·.sending) = [false, true] := by decide
theorem test_broadcast_leaves :
    (after .broadcastSent (sending (ownFrame feed .stop 0 []) 0 feed)).li.tx = [] := by decide
theorem test_arbitration_lost :
    (after .arbitrationLost (sending (passTo 15) 3 feed)).li.tx.map (fun e => (e.attempts, e.sending)) = [(3, false)] := by
  decide
/-- R147: the eighth attempt. -/
theorem test_eighth_attempt :
    let t := after .selfCheckError (sending (ownFrame feed .recall 15 [41]) 7 feed)
    t.li.lineDrops = 1 ∧ t.li.tx.map (·.frame.body) = [[15, 15, 0, 0, 0, 3]] := by decide
/-- R146: a self-check error puts six dominant bits on the line, up to the release. -/
theorem test_abort_mark :
    let t := after .selfCheckError (sending (passTo 15) 0 feed)
    sentBits t = List.replicate 6 false ∧ sentBits (after .lineReleased t) = [] := by decide
set_option maxRecDepth 20000 in
theorem test_bad_check_is_counted :
    (after (.receiveError { frame := { kind := .stop, source := 13, target := 0, body := [] }, length := 0, check := 0 })
      feed).li.receiveErrors = 1 := by decide
theorem test_recall :
    let t := after (.recallReceived 13 14 1) (expecting [coming 13 1] feed)
    t.zq.expected = [] ∧ t.li.slot = .ack := by decide
/-- R149. -/
theorem test_duplicate :
    let t := after (.stateReceived 14 (showing 1)) feed
    t.sn.service = .faulted ∧ t.sn.faults.duplicateZone.map (·.value) = some 7 := by decide
/-- R152. -/
theorem test_estop :
    let t := after .estopActive feed
    halted t = true ∧ t.li.tx.any (fun e => e.frame.kind == .stop) = true := by decide
theorem test_estop_release_ends :
    let t := after .estopReleaseExpiry
      { feed with sn := { feed.sn with localTerm := true, estopRelease := some (due 1000) } }
    halted t = false ∧ t.li.tx.any (fun e => e.frame.kind == .go) = true := by decide
/-- R155: COUNTS index 10 is beyond the range. -/
theorem test_ask_beyond_the_range :
    (after (.askCounts 61 14 10) feed).li.tx.map (fun e => e.frame.body.take 3) = [[1, 10, 1]] := by decide
theorem test_ask_status :
    (after (.askStatus 61 14 0) feed).li.tx.map (fun e => e.frame.body.take 4) = [[0, 0, 0, 2]] := by decide
/-- R156: no room for the REPLY. -/
theorem test_restart_with_a_full_list :
    let s := { feed with li := { feed.li with tx := List.replicate 8 (freshEntry (passTo 15)) } }
    (after (.askRestart 61 14 0) s).sn.resetCause = .remote := by decide
/-- R159. -/
theorem test_setup_write_out_of_range :
    let s := { feed with ss := { feed.ss with writeEnable := true } }
    let t := after (.setupWrite 61 14 4 7) s
    t.ss.cycle = none ∧ t.ss.writeEnable = false ∧ t.li.tx.map (fun e => e.frame.body.take 3) = [[8, 4, 3]] := by decide
theorem test_write_cycle_completes :
    let w : WriteCycle := { item := .capacity, value := some 6, written := 6, source := 14, target := 61, timer := due 40 }
    itemValue (after .writeCycleCompletion { feed with ss := { feed.ss with cycle := some w } }).ss.store .capacity
      = some 6 := by decide
/-- R76. -/
theorem test_window_expires :
    (after (.arrivalWindowExpiry 0) (expecting [coming 13 1] feed)).sn.counts.lost = 1 := by decide
/-- R65. -/
theorem test_silent_neighbour :
    (after (.neighbourSilenceExpiry 15) (hearing [heard 15 (showing 2)] feed)).nt.entries.map (·.presence) = [.absent] := by
  decide
/-- R125. -/
theorem test_call_expires : (after (.callExpiry 2 7) (calling [call 2 7] spur)).cl.calls = [] := by decide


/-! ## Witnesses: states and operands that meet the hypotheses of the obligations -/

/-- A node whose RESETN is active, one with a factory store that hears the line, and one with its setup window running. -/
def held : State := { feed with resetn := true }
def factory : State := { State.reset with tb := 5000, li := { State.reset.li with awaitRelease := false } }
def atSetup (s : State) : State := { s with ss := { s.ss with window := some (due 120000) } }
/-- A node with its halt condition true by a panel's STOP. -/
def stopped (s : State) : State := { s with sn := { s.sn with stopSet := [61] } }
/-- A node that samples. -/
def sampling (s : State) : State := { s with su := { s.su with period := some (due 200) } }
/-- A node whose line interface waits for the release. -/
def deaf (s : State) : State := { s with li := { s.li with awaitRelease := true } }
/-- A node with a transmit list. -/
def listing (l : List TxEntry) (s : State) : State := { s with li := { s.li with tx := l } }
/-- A node with the drive running, and its jam counters. -/
def running (skip high : Nat) (s : State) : State :=
  { s with dc := { drive := .run, runOn := none, skip := skip, high := high } }
/-- An entry of the transmit list that is being sent. -/
def sent (f : Frame) (attempts : Nat) : TxEntry := { frame := f, attempts := attempts, sending := true, replacement := none }
def stopFrame : Frame := { kind := .stop, source := 14, target := 0, body := [] }
def recallFrame : Frame := { kind := .recall, source := 14, target := 15, body := [41] }
def stateFrame : Frame := { kind := .state, source := 14, target := 0, body := List.replicate 6 0 }
def noticeFrame : Frame := { kind := .notice, source := 14, target := 0, body := List.replicate 6 0 }
def restartReply : Frame := { kind := .reply, source := 14, target := 61, body := 7 :: List.replicate 27 0 }

theorem witness_EmptyQueueGivesTheTimeBaseItsStep :
    feed.pending = [] ∧ dueExpiries feed = []
      ∧ Instr.runOnExpiry ∈ dueExpiries { feed with dc := { feed.dc with runOn := some (due 3000) } }
      ∧ Instr.arrivalWindowExpiry 1 ∈ dueExpiries (expecting [coming 13 1, coming 13 2] feed)
      ∧ dueExpiries (expecting [{ coming 13 1 with window := some { start := 5000, duration := 8000 } }] feed) = [] := by
  decide

theorem witness_ExpiryIsTakenAtItsMoment :
    Awake feed ∧ isExpiry .runOnExpiry = true ∧ timerOf .runOnExpiry feed = none
      ∧ timerOf .runOnExpiry { feed with dc := { feed.dc with runOn := some (due 3000) } } = some (due 3000)
      ∧ timerOf (.arrivalWindowExpiry 0) (expecting [coming 13 1] feed) = some (due 8000) := by decide

theorem witness_ResetGivesEveryBlockItsValues :
    State.reset.ss.store = Items.unset
      ∧ validityCheck (loadedItems (items (common 0))) = none
      ∧ validityCheck (loadedItems Items.unset) = some { row := 1, item := 1 } := by decide

theorem witness_ValidityCheckFollowsItsCases :
    validityCheck Items.unset = some { row := 1, item := 1 }
      ∧ validityCheck (items [(.zoneNumber, 60), (.role, 6)]) = some { row := 2, item := 3 }
      ∧ validityCheck (items [(.zoneNumber, 60), (.role, 0), (.side, 0), (.capacity, 1), (.iSpan, 500)])
          = some { row := 3, item := 24 }
      ∧ validityCheck (items (common 5)) = some { row := 4, item := 34 }
      ∧ validityCheck (items (common 3 ++ [(.tLo, 2000), (.tHi, 2000), (.stage, 4), (.requiredCredit, 0), (.tMin, 1800),
          (.tFull, 1850)])) = some { row := 5, item := 21 }
      ∧ validityCheck (items (common 3 ++ [(.tLo, 1000), (.tHi, 2000), (.stage, 4), (.requiredCredit, 0), (.tMin, 999),
          (.tFull, 2000)])) = some { row := 5, item := 27 }
      ∧ validityCheck (items (common 3 ++ [(.tLo, 1000), (.tHi, 2000), (.stage, 4), (.requiredCredit, 0), (.tMin, 1000),
          (.tFull, 2001)])) = some { row := 5, item := 28 }
      ∧ validityCheck (items (common 4 ++ [(.outlet2, 16), (.outlet3, 17), (.requiredStages, 0)]))
          = some { row := 6, item := 29 }
      ∧ validityCheck (items (common 2 ++ [(.station, 4), (.targetEmpties, 3), (.capacity, 2)]))
          = some { row := 7, item := 32 }
      ∧ validityCheck load.ss.running = none ∧ runningRole load.ss.running = .load
      ∧ validityCheck wash.ss.running = none ∧ runningRole wash.ss.running = .wash
      ∧ validityCheck sort.ss.running = none ∧ runningRole sort.ss.running = .sort := by decide

theorem witness_ResetnHoldsTheNode :
    held.resetn = true ∧ Instr.exitEyeBlocked ≠ .powerReset ∧ Instr.exitEyeBlocked ≠ .pinReset
      ∧ Instr.exitEyeBlocked ≠ .resetnAsserted := by decide

theorem witness_EntryEyeBlockedTakesTheRack :
    (InUse (expecting [coming 12 1, coming 13 2] feed) ∧ feed.zq.queue.length < 8
      ∧ inletZone feed.ss.running .one = some 13 ∧ (∀ x ∈ [coming 12 1], x.upstream ≠ 13))
    ∧ (InUse (merge 0) ∧ role (merge 0) = .merge ∧ inletZone (merge 0).ss.running .two = some 12
      ∧ ∀ x ∈ (merge 0).zq.expected, x.upstream ≠ 12)
    ∧ ({ feed with zq := { feed.zq with queue := List.replicate 7 (rack 1 .soiled) } }).zq.queue.length < 8 := by decide

theorem witness_RackAtAFullQueueIsOverfull :
    let s := expecting [coming 13 1] { feed with zq := { feed.zq with queue := List.replicate 8 (rack 1 .soiled) } }
    InUse s ∧ 8 ≤ s.zq.queue.length ∧ inService s = true ∧ s.sn.faults.overfull = none
      ∧ inletZone s.ss.running .one = some 13 ∧ s.zq.expected = [] ++ coming 13 1 :: [] ∧ (coming 13 1).upstream = 13
      ∧ (∀ x ∈ (expecting [coming 12 1] s).zq.expected, x.upstream ≠ 13)
      ∧ InUse (after (.entryEyeBlocked .one) s) ∧ 8 ≤ (after (.entryEyeBlocked .one) s).zq.queue.length
      ∧ (after (.entryEyeBlocked .one) s).sn.faults.overfull ≠ none
      ∧ inService (after (.entryEyeBlocked .one) s) = false := by decide

theorem witness_OtherEyeEvents :
    Awake feed ∧ feed.zq.queue = [] ∧ configured feed = true ∧ (atExit [rack 1 .soiled] feed).zq.queue ≠ []
      ∧ Awake factory ∧ configured factory = false := by decide

theorem witness_ExitEyeClearTakesTheHead :
    Awake factory ∧ configured factory = false ∧ Awake feed ∧ configured feed = true ∧ feed.zq.queue = []
      ∧ (atExit [rack 1 .soiled] feed).zq.queue = rack 1 .soiled :: [] ∧ feed.ex.exit = .closed
      ∧ (offering .one feed).ex.exit = .offering
      ∧ ([ExitState.switching, .releasing].map fun e => ({ feed.ex with exit := e }).exit) = [.switching, .releasing] := by
  decide

theorem witness_ButtonsChangeTheHead :
    InUse feed ∧ role feed ≠ .load ∧ role feed ≠ .unload ∧ InUse load ∧ role load = .load ∧ load.zq.queue = []
      ∧ (atExit [rack 1 .soiled] load).zq.queue = rack 1 .soiled :: [] ∧ (rack 1 .soiled).content = .soiled
      ∧ (rack 1 .empty).content ≠ .soiled ∧ InUse (unload 1) ∧ role (unload 1) = .unload
      ∧ headAtExit (unload 1) = false ∧ (atExit [rack 1 .clean] (unload 1)).zq.eyeX = true
      ∧ itemNat (unload 1).ss.running .cleanRequired ≠ 0 ∧ itemNat (unload 0).ss.running .cleanRequired = 0 := by decide

theorem witness_OpenSwitchIssuesAndWithdrawsCalls :
    let excess := calling [call 4 7] (expecting [coming 13 1, coming 13 2] load)
    InUse feed ∧ role feed ≠ .load ∧ InUse load ∧ role load = .load ∧ stationSum load ≤ targetEmpties load
      ∧ load.li.tx.length + 2 ≤ 8 ∧ targetEmpties excess ≤ stationSum excess
      ∧ (after .stationOpened load).cl.calls.map (·.key.serial) = [1, 2]
      ∧ (after .stationOpened (calling [call 4 1] load)).cl.calls.map (·.key.serial) = [1, 2]
      ∧ (after .stationOpened excess).cl.calls = [] := by decide

theorem witness_TagReadTagsTheTail :
    let s := { feed with zq := { feed.zq with queue := [rack 5 .soiled], tagWindow := some (due 1000) } }
    InUse s ∧ itemNat s.ss.running .tagReader = 1 ∧ itemNat (node 0 [(.tagReader, 0)]).ss.running .tagReader ≠ 1
      ∧ feed.zq.tagWindow = none ∧ s.zq.tagWindow ≠ none ∧ s.zq.queue = [] ++ [rack 5 .soiled]
      ∧ (rack 5 .soiled).tag = some 5 ∧ (5 : BitVec 12) ≠ (4095 : Word16).setWidth 12
      ∧ 1 ≤ (1 : Word16).toNat ∧ (4095 : Word16).toNat ≤ 4095 ∧ 4095 < (4096 : Word16).toNat := by decide

theorem witness_EstopStopsAndReleasesTheLine :
    let s := { feed with sn := { feed.sn with
      estop := true, localTerm := true, stopRepeat := some (due 1000), estopRelease := some (due 1000) } }
    Awake s ∧ configured s = true ∧ s.li.tx.length < 8 ∧ s.sn.estop = true ∧ feed.sn.estop = false
      ∧ s.sn.estopRelease = some (due 1000) ∧ s.sn.stopRepeat = some (due 1000) ∧ (due 1000).due s.tb = true := by decide

theorem witness_PlainTimersEnd :
    let s := { atSetup feed with
      zq := { feed.zq with tagWindow := some (due 1000) }
      ex := { feed.ex with holdOff := some (due 1000) }
      dc := { feed.dc with runOn := some (due 3000) } }
    Awake s ∧ s.ss.window = some (due 120000) ∧ (due 120000).due s.tb = true ∧ s.zq.tagWindow = some (due 1000)
      ∧ s.ex.holdOff = some (due 1000) ∧ s.dc.runOn = some (due 3000) ∧ (due 1000).due s.tb = true
      ∧ (due 3000).due s.tb = true := by decide

theorem witness_StartHoldAndQuietTimeEnd :
    let s := { feed with sn := { feed.sn with
      service := .recovering, startHold := some (due 2000), quiet := some (due 6000) } }
    InUse s ∧ s.sn.startHold = some (due 2000) ∧ (due 2000).due s.tb = true ∧ s.sn.service = .recovering
      ∧ s.sn.quiet = some (due 6000) ∧ (due 6000).due s.tb = true := by decide

theorem witness_EntriesLeaveWithoutTheirRack :
    let s := expecting [coming 12 1, coming 13 1, coming 13 2] feed
    Hearing s ∧ FromOther 13 s ∧ ownZone s = some 14 ∧ (coming 13 1).window = some (due 8000)
      ∧ (due 8000).due s.tb = true ∧ s.zq.expected = [coming 12 1] ++ coming 13 1 :: [coming 13 2]
      ∧ (∀ x ∈ [coming 12 1], ¬ (x.upstream = 13 ∧ x.serial = 1))
      ∧ (∀ x ∈ s.zq.expected, ¬ (x.upstream = 13 ∧ x.serial = 3)) ∧ configured s = true ∧ s.li.tx.length < 8
      ∧ s.li.tx.countP (hasKind .notice) < 3 ∧ s.zq.queue = [] ∧ inService s = true ∧ halted s = false
      ∧ itemNat s.ss.running .runOn ≠ 0 := by decide

theorem witness_TravelEndsAndReleaseSticks :
    let s := offering .one (atExit [rack 7 .soiled] feed)
    let a := { s with ex := { s.ex with exit := .switching, travel := some (due 600) } }
    let b := { s with ex := { s.ex with exit := .releasing, release := some (due 4000) } }
    (Awake a ∧ a.ex.exit = .switching ∧ a.ex.travel = some (due 600) ∧ (due 600).due a.tb = true)
    ∧ (InUse b ∧ b.ex.exit = .releasing ∧ b.ex.release = some (due 4000) ∧ (due 4000).due b.tb = true
      ∧ b.ex.outlet = some .one ∧ outletZone b.ss.running .one = some 15 ∧ b.ex.serial = some 41
      ∧ inService b = true ∧ b.sn.faults.exitStuck = none ∧ b.li.tx.length < 8) := by decide

theorem witness_EntryTimersRepeatOrEnd :
    let fault : LatchedFault := { detail := 0, tag := 0, value := 0, renotice := some (due 10000) }
    let s := hearing [heard 15 (showing 1)] { feed with
      nt := { feed.nt with period := some (due 10000) }, sn := { feed.sn with faults := { feed.sn.faults with jam := some fault } } }
    (InUse s ∧ (due 10000).due s.tb = true ∧ s.nt.period = some (due 10000)
      ∧ latched? s.sn.faults .jam = some fault ∧ fault.renotice = some (due 10000)
      ∧ neighbour? s 15 = some (heard 15 (showing 1)) ∧ (heard 15 (showing 1)).silence = some (due 1500)
      ∧ (due 1500).due s.tb = true)
    ∧ (InUse (calling [call 4 7] load) ∧ role (calling [call 4 7] load) = .load
      ∧ [call 4 7].find? (fun x => x.key.serial == (call 4 7).key.serial) = some (call 4 7)
      ∧ (call 4 7).timer = some (due 60000) ∧ (due 60000).due load.tb = true)
    ∧ (InUse (calling [call 2 7] spur) ∧ role spur = .spur
      ∧ [call 2 7].find? (fun x => x.key == (call 2 7).key) = some (call 2 7)) := by decide

theorem witness_SampleReplacesTheLastValues :
    Awake (sampling feed) ∧ (sampling feed).su.period = some (due 200) ∧ (due 200).due feed.tb = true
      ∧ itemValue wash.ss.running .tLo = some 1000 ∧ itemValue wash.ss.running .tHi = some 2000
      ∧ itemValue feed.ss.running .tLo = none := by decide

theorem witness_CurrentIsHandedToTheJamCheck :
    let s := running 0 2 (sampling feed)
    Awake s ∧ s.su.period = some (due 200) ∧ (due 200).due s.tb = true ∧ s.dc.drive = .run
      ∧ itemNat s.ss.running .iJam ≠ 0 ∧ s.sn.faults.jam = none ∧ inService s = true ∧ 2 ≤ s.dc.high ∧ s.dc.skip = 0
      ∧ (running 0 1 s).dc.high < 2 ∧ 0 < (running 1 0 s).dc.skip ∧ feed.dc.drive = .off
      ∧ currentOf 5000 3276 = 4000 ∧ currentOf 5000 3275 < 4000 := by decide

theorem witness_RinseCreditOfASample :
    InUse wash ∧ role wash = .wash ∧ wash.su.period = some (due 200) ∧ (due 200).due wash.tb = true
      ∧ halted wash = false ∧ halted (stopped wash) = true ∧ wash.sn.faults.probe = none ∧ wash.su.faultCount < 2
      ∧ (8 : AdcCode).toNat ≤ 8 ∧ 8 < (9 : AdcCode).toNat ∧ (4086 : AdcCode).toNat < 4087
      ∧ 4087 ≤ (4087 : AdcCode).toNat := by decide

theorem witness_SetupFramesAreTakenFromPanels :
    let w : WriteCycle := { item := .capacity, value := some 6, written := 6, source := 14, target := 61, timer := due 40 }
    let latch := { feed with ss := { feed.ss with writeEnable := true } }
    let locked := { latch with ss := { latch.ss with store := setItem latch.ss.store .lock (some 1) } }
    TakenAt 14 feed ∧ TakenAt 63 (atSetup feed) ∧ TakenAt 63 (atSetup factory) ∧ FromOther 61 feed ∧ FromOther 13 feed
      ∧ feed.ss.cycle = none ∧ ({ feed with ss := { feed.ss with cycle := some w } }).ss.cycle.isSome = true
      ∧ itemOfNumber 0 = none ∧ itemOfNumber 1 = some .zoneNumber ∧ itemOfNumber 35 = some .lock ∧ itemOfNumber 36 = none
      ∧ feed.ss.writeEnable = false ∧ latch.ss.writeEnable = true ∧ itemValue locked.ss.store .lock ≠ none
      ∧ itemInRange .capacity 6 = true ∧ itemInRange .capacity 7 = false ∧ itemDefault .capacity = none
      ∧ itemDefault .runOn ≠ none := by decide

theorem witness_WriteCycleStoresItsItem :
    let w : WriteCycle := { item := .capacity, value := some 6, written := 6, source := 14, target := 61, timer := due 40 }
    let s := { feed with ss := { feed.ss with cycle := some w } }
    Awake s ∧ s.ss.cycle = some w ∧ w.timer.due s.tb = true ∧ s.li.tx.length < 8 := by decide

set_option maxRecDepth 20000 in
theorem witness_LineLevelsAndReceiveErrors :
    Awake feed ∧ feed.li.line = .released ∧ State.reset.li.line = .busy ∧ (deaf feed).li.awaitRelease = true
      ∧ feed.li.awaitRelease = false ∧ 29 ≤ (29 : BitVec 5).toNat ∧ (0 : Word16) ≠ crc (checkedBits stopFrame 0)
      ∧ lengthAllowed .stop (1 : BitVec 5).toNat = false ∧ FrameKind.stop ≠ .reserved := by decide

theorem witness_FirstFrameInOrderIsSent :
    let s := listing [freshEntry recallFrame, freshEntry stopFrame, freshEntry noticeFrame] feed
    Awake s ∧ s.li.line = .released ∧ (∀ x ∈ s.li.tx, x.sending = false)
      ∧ s.li.tx = [freshEntry recallFrame] ++ freshEntry stopFrame :: [freshEntry noticeFrame]
      ∧ (∀ x ∈ [freshEntry recallFrame], kindCode stopFrame.kind < kindCode x.frame.kind)
      ∧ (∀ x ∈ [freshEntry noticeFrame], kindCode stopFrame.kind ≤ kindCode x.frame.kind)
      ∧ feed.li.tx = [] ∧ State.reset.li.line = .busy ∧ (sent stopFrame 0).sending = true
      ∧ configured s = true ∧ configured factory = false ∧ stateFrame.kind = .state
      ∧ (∀ x ∈ s.li.tx, x.frame.kind ≠ .state) ∧ (sent stateFrame 0).frame.kind = .state
      ∧ 3 ≤ (List.replicate 3 (freshEntry noticeFrame)).countP (hasKind .notice)
      ∧ 8 ≤ (List.replicate 8 (freshEntry stopFrame)).length := by decide

theorem witness_SentFramesLeaveOrWait :
    let s := listing [freshEntry recallFrame, sent recallFrame 7] feed
    Awake s ∧ (∀ x ∈ feed.li.tx, x.sending = false) ∧ s.li.tx = [freshEntry recallFrame] ++ sent recallFrame 7 :: []
      ∧ (∀ x ∈ [freshEntry recallFrame], x.sending = false) ∧ (sent recallFrame 7).replacement = none
      ∧ ({ sent stateFrame 0 with replacement := some stateFrame }).replacement = some stateFrame
      ∧ stopFrame.target = 0 ∧ recallFrame.target ≠ 0 ∧ (sent recallFrame 6).attempts < 7
      ∧ (sent noticeFrame 7).attempts = 7 ∧ noticeFrame.kind = .notice ∧ recallFrame.kind ≠ .notice
      ∧ recallFrame.kind ≠ .pass ∧ ¬ (recallFrame.kind = .reply ∧ octetAt recallFrame.body 0 = 7) ∧ configured s = true ∧ ([freshEntry recallFrame] ++ []).length < 8 := by decide

theorem witness_PassOutcomesMoveTheExit :
    let s := offering .one (listing [freshEntry stateFrame, sent (passTo 15) 0] (atExit [rack 7 .soiled] feed))
    let t := offering .two (sending (passTo 60) 0 (atExit [rack 7 .soiled] sort))
    (Awake s ∧ s.li.tx = [freshEntry stateFrame] ++ sent (passTo 15) 0 :: []
      ∧ (∀ x ∈ [freshEntry stateFrame], x.sending = false) ∧ (passTo 15).kind = .pass ∧ (passTo 15).target ≠ 0
      ∧ s.ex.exit = .offering ∧ s.cl.offerCall = none ∧ s.ex.outlet = some .one ∧ outletZone s.ss.running .one = some 15
      ∧ s.ex.serial = some 41 ∧ halted s = false ∧ s.sn.service ≠ .faulted ∧ s.ex.withdrawn = false
      ∧ halted (stopped s) = true ∧ role s ≠ .sort ∧ role s ≠ .spur ∧ (sent (passTo 15) 7).attempts = 7)
    ∧ (Awake t ∧ t.li.tx = [] ++ sent (passTo 60) 0 :: [] ∧ t.ex.outlet = some .two
      ∧ outletZone t.ss.running .two = some 60 ∧ role t = .sort
      ∧ ¬ (t.ex.position = outletPosition t.ss.running .two ∧ t.ex.settled = true)
      ∧ itemNat t.ss.running .diverterTravel ≠ 0
      ∧ itemNat (node 4 [(.diverterTravel, 0)]).ss.running .diverterTravel = 0) := by decide

theorem witness_SpurSettlesTheCallOfItsOffer :
    let key : CallKey := { station := 1, serial := 12 }
    let s := offering .two (sending (passTo 54) 0 (atExit [rack 615 .empty] (calling [call 1 12] spur)))
    let s := { s with cl := { s.cl with offerCall := some key } }
    InUse s ∧ role s = .spur ∧ s.li.tx = [] ++ sent (passTo 54) 0 :: [] ∧ (passTo 54).kind = .pass
      ∧ (passTo 54).target ≠ 0 ∧ s.ex.exit = .offering ∧ s.cl.offerCall = some key ∧ s.ex.outlet = some .two
      ∧ outletZone s.ss.running .two = some 54 ∧ s.ex.serial = some 41 ∧ (sent (passTo 54) 7).attempts = 7
      ∧ halted (stopped s) = true ∧ halted s = false ∧ s.sn.service ≠ .faulted ∧ s.ex.withdrawn = false
      ∧ ¬ (s.ex.position = outletPosition s.ss.running .two ∧ s.ex.settled = true)
      ∧ ({ s.ex with position := 1, settled := true }).position = outletPosition s.ss.running .two
      ∧ itemNat s.ss.running .diverterTravel ≠ 0
      ∧ itemNat (node 6 [(.diverterTravel, 0)]).ss.running .diverterTravel = 0 := by decide

theorem witness_FramesNotForTheNodeHaveNoEffect :
    receivedFrame (.recallReceived 13 16 1) = some { kind := .recall, source := 13, target := 16, body := [1] }
      ∧ Awake feed ∧ (deaf feed).li.awaitRelease = true ∧ feed.li.awaitRelease = false ∧ Hearing feed
      ∧ lengthAllowed .recall 1 = true ∧ lengthAllowed .recall 2 = false ∧ configured feed = true ∧ FromOther 13 feed
      ∧ targetAllowed .recall 16 = true ∧ ownZone feed ≠ some 16 ∧ targetAllowed .recall 61 = false
      ∧ targetAllowed .state 14 = false ∧ ownZone feed = some 14 ∧ feed.ss.window = none
      ∧ targetAllowed .ask 63 = true ∧ Awake factory ∧ configured factory = false ∧ factory.li.awaitRelease = false := by
  decide

theorem witness_OwnNumberHeardIsADuplicate :
    receivedFrame (.stopReceived 14) = some { kind := .stop, source := 14, target := 0, body := [] } ∧ Hearing feed
      ∧ ownZone feed = some 14 ∧ lengthAllowed .stop 0 = true ∧ feed.sn.faults.duplicateZone = none
      ∧ inService feed = true := by decide

theorem witness_StopAndGoChangeTheStopSet :
    Hearing feed ∧ FromOther 1 feed ∧ FromOther 60 feed ∧ FromOther 61 feed ∧ FromOther 62 feed ∧ FromOther 63 feed
      ∧ (62 : Addr).toNat ≤ 62 ∧ (60 : Addr).toNat ≤ 60 ∧ halted feed = false ∧ Hearing (stopped feed)
      ∧ halted (stopped feed) = true
      ∧ (let s := offering .two (atExit [rack 615 .empty] spur)
         let s := { s with ex := { s.ex with exit := .switching }
                           cl := { s.cl with offerCall := some { station := 1, serial := 12 } } }
         Hearing s ∧ halted s = false ∧ s.ex.exit = .switching ∧ s.ex.outlet = some .two
          ∧ outletZone s.ss.running .two = some 54 ∧ s.ex.serial = some 41 ∧ s.li.tx.length < 8
          ∧ s.cl.offerCall ≠ none ∧ s.zq.queue = rack 615 .empty :: []) := by decide

theorem witness_PassIsHeldOrTaken :
    Hearing feed ∧ FromOther 13 feed ∧ ownZone feed = some 14 ∧ plainBody.length ∈ [9, 13, 17, 21, 25]
      ∧ inletZone feed.ss.running .one = some 13 ∧ feed.sn.service = .serving ∧ halted feed = false ∧ role feed ≠ .merge
      ∧ role feed ≠ .load ∧ inletZone feed.ss.running .one ≠ some 20 ∧ inletZone feed.ss.running .two ≠ some 20
      ∧ halted (stopped feed) = true ∧ ({ feed.sn with service := .recovering }).service ≠ .serving
      ∧ ¬ capacity feed ≤ (List.replicate 3 (rack 1 .soiled)).length
      ∧ capacity feed ≤ (List.replicate 4 (rack 1 .soiled)).length := by decide

theorem witness_ArbiterDecidesAtAMerge :
    let s := hearing [heard 13 (waitingFor 14), heard 12 (waitingFor 14)] (merge 1)
    let full := expecting (List.replicate 3 (coming 13 1)) s
    Hearing s ∧ FromOther 13 s ∧ FromOther 12 s ∧ ownZone s = some 14 ∧ role s = .merge
      ∧ inletZone s.ss.running .one = some 13 ∧ inletZone s.ss.running .two = some 12 ∧ s.sn.service = .serving
      ∧ halted s = false ∧ s.zq.queue.length + s.zq.expected.length < capacity s
      ∧ neighbour? s 12 = some (heard 12 (waitingFor 14)) ∧ (waitingFor 14).flags.getLsbD 2 = true
      ∧ itemNat s.ss.running .mergeMode ≠ 0 ∧ itemNat (merge 0).ss.running .mergeMode = 0
      ∧ freePlaces full = 1 ∧ full.zq.queue.length + full.zq.expected.length < capacity full
      ∧ s.ma.guard < 4 ∧ 4 ≤ ({ s.ma with guard := 4 }).guard
      ∧ (let c := (node 1 [(.upstream2, 13), (.mergeMode, 0)]).ss.running
         inletZone c .one = inletZone c .two) := by
  decide

theorem witness_LoadJudgesTheBoundCall :
    let body : List Byte := [61, 6, 197, 0, 0, 0, 4, 8, 0]
    Hearing load ∧ FromOther 13 load ∧ ownZone load = some 14 ∧ body.length ∈ [9, 13, 17, 21, 25] ∧ role load = .load
      ∧ inletZone load.ss.running .one = some 13 ∧ load.sn.service = .serving ∧ halted load = false
      ∧ load.zq.queue.length + load.zq.expected.length < capacity load ∧ (clampedRecord plainBody).bound = none
      ∧ (clampedRecord body).bound = some { station := 4, serial := 8 }
      ∧ (call 4 8).key = { station := 4, serial := 8 } ∧ (call 4 7).key ≠ { station := 4, serial := 8 } := by decide

theorem witness_PassRecordIsClamped :
    plainBody.length ∈ [9, 13, 17, 21, 25] ∧ (plainBody ++ List.replicate 16 0).length ∈ [9, 13, 17, 21, 25] := by decide

theorem witness_PassBodyCarriesTheRecord :
    let r : RackRecord := { rack 4095 .reject with
      origin := some 15, washes := 3, bound := some { station := 15, serial := 255 },
      results := [result 1 0 .met, result 4 65535 .short, result 2 7 .probeLost, result 3 1 .met] }
    RecordOk r ∧ (∀ e ∈ r.results, e.verdict ≠ .pending ∧ e.faultSeen = false) ∧ r.tag ≠ some 0 ∧ r.origin ≠ some 0
      ∧ r.bound = some { station := 15, serial := 255 } ∧ (15 : Station) ≠ 0 := by decide

theorem witness_StateIsTakenFromANeighbour :
    let s := hearing [heard 15 (showing 1)] feed
    let w := offering .one (atExit [rack 5 .empty] (unload 1))
    Hearing s ∧ FromOther 15 s ∧ neighbour? s 15 = some (heard 15 (showing 1)) ∧ neighbour? s 16 = none
      ∧ w.zq.queue ≠ [] ∧ w.zq.eyeX = true ∧ w.sn.service = .serving ∧ w.ex.exit = .offering ∧ w.ex.outlet = some .one
      ∧ headOutlet w = some .one ∧ (ownBody w).waited = 15 ∧ headOutlet (atExit [rack 5 .clean] (unload 1)) = none
      ∧ (ownBody (atExit [rack 5 .clean] (unload 1))).waited = 0 := by decide

theorem witness_SpurStoresCalls :
    let three := calling [call 2 1, call 2 2, call 2 3] spur
    Hearing spur ∧ FromOther 20 spur ∧ role feed ≠ .spur ∧ role spur = .spur ∧ (0 : Byte) = 0 ∧ 15 < (16 : Byte).toNat
      ∧ (15 : Byte) = (15 : Station).setWidth 8 ∧ runningStation spur.ss.running = some 1
      ∧ (itemNat spur.ss.running .downstreamStations).testBit (2 - 1) = true
      ∧ (itemNat spur.ss.running .downstreamStations).testBit (15 - 1) = false
      ∧ (call 2 1).key = { station := 2, serial := 1 } ∧ (∀ e ∈ three.cl.calls, e.key ≠ { station := 2, serial := 4 })
      ∧ three.cl.calls.countP (fun e => e.key.station == 2) ≥ 3
      ∧ ¬ (calling [call 2 1, call 2 2] spur).cl.calls.countP (fun e => e.key.station == 2) ≥ 3 := by decide

theorem witness_AnswersAndDeclinesRemoveTheirCall :
    Hearing spur ∧ FromOther 20 spur ∧ (1 : Station) ≠ 0 ∧ (15 : Station) ≠ 0 ∧ role spur = .spur ∧ role load = .load
      ∧ Hearing load ∧ Hearing feed ∧ role feed ≠ .load ∧ role feed ≠ .spur
      ∧ ∀ e ∈ (calling [call 2 1] spur).cl.calls, e.key ≠ { station := 1, serial := 1 } := by decide

theorem witness_ClearUnlatchesFaults :
    Hearing feed ∧ FromOther 61 feed ∧ ownZone feed = some 14 ∧ 1 ≤ (14 : Addr).toNat ∧ (14 : Addr).toNat ≤ 60 := by decide

theorem witness_EnquiriesAreAnswered :
    TakenAt 14 feed ∧ TakenAt 63 (atSetup factory) ∧ FromOther 61 feed ∧ FromOther 62 feed ∧ FromOther 13 feed
      ∧ FromOther 60 feed ∧ (0 : Byte).toNat = 0 ∧ (6 : Byte).toNat = 6 ∧ (8 : Byte).toNat = max 8 (8 : Byte).toNat
      ∧ 7 < (255 : Byte).toNat := by decide

theorem witness_ReplyHoldsItsData :
    let s := calling [call 4 7] (hearing [heard 15 (showing 1)] (expecting [coming 13 1] (atExit [rack 1 .soiled] feed)))
    s.zq.queue[0]? = some (rack 1 .soiled)
      ∧ askData 2 0 (atExit [rinsed 400 false] feed) = some [4, 177, 1, 0, 0, 0, 0, 0]
      ∧ s.zq.expected[0]? = some (coming 13 1) ∧ s.cl.calls[0]? = some (call 4 7)
      ∧ s.nt.entries[0]? = some (heard 15 (showing 1)) ∧ (heard 15 (showing 1)).last = some (showing 1)
      ∧ itemOfNumber 35 = some .lock ∧ itemOfNumber 0 = none ∧ s.zq.queue.length ≤ 1 ∧ QueueOk s
      ∧ (askData 2 0 s).isSome = true := by decide

theorem witness_RestartResetsTheNode :
    let s := listing [sent restartReply 7] feed
    TakenAt 14 feed ∧ FromOther 61 feed ∧ FromOther 13 feed ∧ feed.li.tx.length < 8
      ∧ 8 ≤ (listing (List.replicate 8 (freshEntry recallFrame)) feed).li.tx.length
      ∧ s.li.tx = [] ++ sent restartReply 7 :: [] ∧ restartReply.kind = .reply ∧ restartReply.body.head? = some 7
      ∧ restartReply.target ≠ 0 := by decide

theorem witness_OfferPreparesTheHead :
    let s := hearing [heard 15 (showing 1)] (atExit [rack 7 .soiled] feed)
    let q := { atExit [rack 8 .soiled] sort with sl := { judgement := some (judge [1] 2 (rack 8 .soiled)) } }
    let p := calling [call 1 12] (atExit [rack 9 .empty] spur)
    (configured s = true ∧ s.zq.queue = rack 7 .soiled :: [] ∧ headOutlet s = some .one
      ∧ outletZone s.ss.running .one = some 15 ∧ s.zq.eyeX = true ∧ inService s = true ∧ halted s = false
      ∧ s.ex.exit = .closed ∧ s.ex.holdOff = none ∧ neighbour? s 15 = some (heard 15 (showing 1))
      ∧ (showing 1).service = 2 ∧ (showing 1).flags.getLsbD 0 = false ∧ (showing 1).free ≠ 0 ∧ (showing 0).free = 0
      ∧ s.li.tx.length ≤ 6 ∧ 8 ≤ (listing (List.replicate 8 (freshEntry recallFrame)) s).li.tx.length)
    ∧ (role q = .sort ∧ headOutlet q = some .two ∧ neighbour? q 60 = some (heard 60 (showing 2)))
    ∧ (role p = .spur ∧ headOutlet p = some .two ∧ outletZone p.ss.running .two = some 54) := by decide

theorem witness_HeadIsJudgedAtTheSort :
    let s := { sort with zq := { sort.zq with queue := [rack 8 .soiled] } }
    InUse s ∧ role s = .sort ∧ s.zq.queue = rack 8 .soiled :: [] ∧ s.sl.judgement = none := by decide

theorem witness_JudgementStandsWhileTheHeadWaits :
    let s := { atExit [rack 8 .soiled] (hearing [] sort) with sl := { judgement := some (judge [1] 2 (rack 8 .soiled)) } }
    (after .exitEyeBlocked s).zq.queue ≠ [] ∧ Instr.exitEyeBlocked ≠ .exitEyeClear
      ∧ s.sl.judgement = some (judge [1] 2 (rack 8 .soiled)) := by decide

theorem witness_SpurChoosesTheOutlet :
    (rack 1 .soiled).content ≠ .empty ∧ (rack 1 .empty).content = .empty
      ∧ runningStation spur.ss.running = some (call 1 12).key.station
      ∧ (∀ e ∈ [call 2 7], runningStation spur.ss.running ≠ some e.key.station)
      ∧ (call 2 7).key.station ≠ 0 ∧ (itemNat spur.ss.running .downstreamStations).testBit 1 = true
      ∧ outletZone spur.ss.running .two = some 54 ∧ neighbour? spur 54 = some (heard 54 (showing 2))
      ∧ neighbour? (hearing [] spur) 54 = none := by decide

theorem witness_FreePlacesOfAZone :
    let s := hearing [heard 15 (showing 1)] (atExit [rack 7 .soiled] feed)
    s.zq.queue.length + s.zq.expected.length ≤ capacity s
      ∧ capacity s < (List.replicate 5 (rack 1 .soiled)).length ∧ testOffer s ≠ s := by decide

theorem witness_TestsOfAnEventChangeNoMore : configured factory = false := by decide

theorem witness_FramesSurviveTheLine :
    recallFrame.body.length ≤ 28 ∧ restartReply.body.length ≤ 28
      ∧ lengthAllowed restartReply.kind restartReply.body.length = true := by decide

/-- A node in service with a rack, an acknowledged rack, a frame on the line, a call list and a settled body: it meets each
invariant that a step keeps. -/
def busy : State :=
  settle { expecting [coming 13 1] (listing [sent stopFrame 0] feed) with
    zq := { queue := [rinsed 400 false], expected := [coming 13 1], tagWindow := none, eye1 := false, eye2 := false,
            eyeX := true } }

theorem witness_StepKeepsTheTransmitList : TransmitOk busy.li ∧ busy.li.tx.length = 2 := by decide
theorem witness_StepKeepsTheExitAndMovementIsSafe :
    ExitOk busy ∧ DriveOk busy ∧ drivePin busy = true
      ∧ ExitOk (after (.replySlotRead true false) (offering .one (sending (passTo 15) 0 (atExit [rack 7 .soiled] feed))))
      ∧ gatePin (after (.replySlotRead true false)
          (offering .one (sending (passTo 15) 0 (atExit [rack 7 .soiled] feed)))) = true := by decide
theorem witness_StepKeepsTheNodeSettled : Settled busy := by decide
theorem witness_StepKeepsFaultsAndUnconfiguredNodes :
    FaultsOk busy ∧ UnconfiguredOk busy ∧ FaultsOk (after (.stateReceived 14 (showing 1)) feed)
      ∧ UnconfiguredOk factory ∧ TransmitOk busy.li ∧ TransmitOk factory.li :=
  ⟨by decide, by decide, by decide, by decide, by decide, by decide⟩
theorem witness_StepKeepsStoreAndQueue : StoreOk busy ∧ QueueOk busy ∧ busy.zq.queue.length = 1 := by decide
theorem witness_StepKeepsTheCallList :
    CallsOk (settle { load with cl := { load.cl with stationOpen := true } })
      ∧ NeedOk (settle { load with cl := { load.cl with stationOpen := true } })
      ∧ StoreOk (settle { load with cl := { load.cl with stationOpen := true } })
      ∧ (settle { load with cl := { load.cl with stationOpen := true } }).cl.calls.length = 2 := by decide
theorem witness_StepKeepsWindowsAndStopSet :
    WindowsOk busy ∧ StopSetOk busy ∧ WindowsOk (after (.stopReceived 62) busy)
      ∧ (after (.stopReceived 62) busy).sn.stopSet = [62] := by decide
theorem witness_OnlyTheseChangeServiceAndSetup : (after .powerReset feed).sn.service ≠ feed.sn.service := by decide

end Sys2Proof.Tests
end

section
/-! The rack records and the zone queue (chapter 2): the proofs. -/

namespace Sys2Proof.RackProofs
open Sys2Proof.Machine

/-! # Every step keeps the ranges of the setup values, the queue and the records

## Records within their ranges (R21, R22) -/

theorem recordOk_of_results {r r' : RackRecord} (h : RecordOk r) (hw : r'.washes ≤ 3)
    (hr : r'.results = r.results) : RecordOk r' :=
  ⟨hw, by rw [hr]; exact h.2⟩

/-- A change of every result that keeps its stage and its credit's range. -/
theorem recordOk_of_mapped {r : RackRecord} (h : RecordOk r) (f : StageResult → StageResult)
    (hs : ∀ e, (f e).stage = e.stage) (hc : ∀ e, e.credit ≤ 65535 → (f e).credit ≤ 65535) :
    RecordOk { r with results := r.results.map f } := by
  obtain ⟨hw, hn, hb⟩ := h
  refine ⟨hw, ?_, fun e he => ?_⟩
  · have stages : (r.results.map f).map (·.stage) = r.results.map (·.stage) := by simp [hs]
    rw [stages]; exact hn
  · obtain ⟨e', he', rfl⟩ := List.mem_map.1 he
    obtain ⟨h1, h4, hcr⟩ := hb e' he'
    rw [hs]; exact ⟨h1, h4, hc e' hcr⟩

theorem recordOk_without_results {r : RackRecord} (hw : r.washes ≤ 3) (hr : r.results = []) : RecordOk r := by
  simp [RecordOk, hw, hr]

theorem unbound_recordOk {r : RackRecord} (h : RecordOk r) : RecordOk (unbound r) := h

theorem freezeRecord_recordOk (n : Nat) {r : RackRecord} (h : RecordOk r) : RecordOk (freezeRecord n r) := by
  refine recordOk_of_mapped h _ (fun e => ?_) fun e he => ?_
  · unfold freezeResult; split <;> rfl
  · unfold freezeResult; split <;> exact he

theorem judgedRecord_recordOk (o : Outlet) {r : RackRecord} (h : RecordOk r) : RecordOk (judgedRecord o r) := by
  cases o with
  | one => exact recordOk_of_results h (min_le_right _ _) rfl
  | two => exact recordOk_without_results (min_le_right _ _) rfl
  | three => exact recordOk_of_results h (min_le_right _ _) rfl

theorem changePending_recordOk {f : StageResult → StageResult} (hs : ∀ e, (f e).stage = e.stage)
    (hc : ∀ e, e.credit ≤ 65535 → (f e).credit ≤ 65535) {r : RackRecord} (h : RecordOk r) :
    RecordOk (changePending f r) := by
  refine recordOk_of_mapped h _ (fun e => ?_) fun e he => ?_
  · split
    · exact hs e
    · rfl
  · split
    · exact hc e he
    · exact he

/-- A fresh stage entry takes the place of any entry of its stage, so no stage stands twice (R100). -/
theorem withStageEntry_recordOk {n : Nat} (h1 : 1 ≤ n) (h4 : n ≤ 4) {r : RackRecord} (h : RecordOk r) :
    RecordOk (withStageEntry n r) := by
  obtain ⟨hw, hn, hb⟩ := h
  refine ⟨hw, ?_, fun e he => ?_⟩
  · simp only [withStageEntry, List.map_append, List.nodup_append]
    refine ⟨hn.sublist (List.filter_sublist.map _), by simp, ?_⟩
    intro a ha b hb'
    obtain ⟨e, he, rfl⟩ := List.mem_map.1 ha
    simp only [stageEntry, List.map_cons, List.map_nil, List.mem_singleton] at hb'
    simpa [hb'] using (List.mem_filter.1 he).2
  · rcases List.mem_append.1 he with he | he
    · exact hb e (List.mem_filter.1 he).1
    · obtain rfl := List.mem_singleton.1 he
      exact ⟨h1, h4, by simp [stageEntry]⟩

/-! ## The record of a PASS (R72) -/

theorem readResults_bounds (l : List Byte) :
    ∀ e ∈ readResults l, e.credit ≤ 65535 ∧ e.verdict ≠ .pending := by
  induction l using readResults.induct with
  | case1 stage high low verdict rest ih =>
    intro e he
    rcases List.mem_cons.1 he with rfl | he
    · refine ⟨Nat.le_of_lt_succ (ofOctets high low).isLt, ?_⟩
      unfold readResult verdictOfCode; split <;> simp
    · exact ih e he
  | case2 l h => unfold readResults; simp

theorem clampResults_subset (taken : List Nat) (l : List StageResult) : clampResults taken l ⊆ l := by
  induction l generalizing taken with
  | nil => simp [clampResults]
  | cons r rest ih =>
    unfold clampResults; split
    · exact List.cons_subset_cons _ (ih _)
    · exact List.subset_cons_of_subset _ (ih _)

theorem clampResults_stage {taken : List Nat} {l : List StageResult} :
    ∀ e ∈ clampResults taken l, 1 ≤ e.stage ∧ e.stage ≤ 4 ∧ e.stage ∉ taken := by
  induction l generalizing taken with
  | nil => simp [clampResults]
  | cons r rest ih =>
    unfold clampResults; split
    · rename_i hr
      intro e he
      rcases List.mem_cons.1 he with rfl | he
      · simpa [and_assoc] using hr
      · obtain ⟨h1, h4, hn⟩ := ih e he
        exact ⟨h1, h4, fun h => hn (List.mem_cons_of_mem _ h)⟩
    · exact ih

theorem clampResults_nodup (taken : List Nat) (l : List StageResult) :
    ((clampResults taken l).map (·.stage)).Nodup := by
  induction l generalizing taken with
  | nil => simp [clampResults]
  | cons r rest ih =>
    unfold clampResults; split
    · refine List.nodup_cons.2 ⟨fun h => ?_, ih _⟩
      obtain ⟨e, he, hs⟩ := List.mem_map.1 h
      exact (clampResults_stage e he).2.2 (by simp [hs])
    · exact ih _

/-- Whatever octets a PASS brings, the record read from it lies within its ranges and no result of it is PENDING. -/
theorem clampedRecord_ok (body : List Byte) :
    RecordOk (clampedRecord body) ∧ ∀ x ∈ (clampedRecord body).results, x.verdict ≠ .pending := by
  have read := fun e he => readResults_bounds (body.drop 9) e (clampResults_subset [] _ he)
  refine ⟨⟨min_le_right _ _, clampResults_nodup _ _, fun e he => ?_⟩, fun e he => (read e he).2⟩
  obtain ⟨h1, h4, -⟩ := clampResults_stage e he
  exact ⟨h1, h4, (read e he).1⟩

/-! ## Setup values within their ranges (R157, R159, R161) -/

theorem mem_itemList (i : Item) : i ∈ itemList := by cases i <;> decide

theorem itemsOk_iff {c : Items} : ItemsOk c ↔ ∀ i v, itemValue c i = some v → itemInRange i v.toNat = true := by
  simp [ItemsOk, mem_itemList, Option.all_eq_true]

theorem itemsOk_unset : ItemsOk Items.unset := by simp [itemsOk_iff]

theorem itemDefault_inRange (i : Item) : ((itemDefault i).all fun v => itemInRange i v.toNat) = true := by
  cases i <;> decide

theorem itemInRange_bounds {i : Item} {n : Nat} (h : itemInRange i n = true) :
    (itemBounds i).1 ≤ n ∧ n ≤ (itemBounds i).2 := by
  simp only [itemInRange, Bool.and_eq_true, decide_eq_true_eq] at h
  exact h.1

theorem itemsOk_loadedItems {c : Items} (h : ItemsOk c) : ItemsOk (loadedItems c) := by
  rw [itemsOk_iff] at h ⊢
  intro i v hv
  rw [itemValue_loadedItems, Option.or_eq_some_iff] at hv
  rcases hv with hv | ⟨-, hv⟩
  · exact h i v hv
  · simpa [hv] using itemDefault_inRange i

theorem itemsOk_setItem {c : Items} (h : ItemsOk c) (i : Item) {v : Option Word16}
    (hv : (v.all fun v => itemInRange i v.toNat) = true) : ItemsOk (setItem c i v) := by
  rw [itemsOk_iff] at h ⊢
  intro j w hw
  by_cases hij : i = j
  · subst hij
    rw [itemValue_setItem] at hw
    simpa [hw] using hv
  · rw [itemValue_setItem_ne c v hij] at hw
    exact h j w hw

theorem firstFault_eq_none {n : Nat} {rows : List (List Item)} :
    firstFault n rows = none ↔ ∀ is ∈ rows, is = [] := by
  induction rows generalizing n with
  | nil => simp [firstFault]
  | cons is rest ih => cases is <;> simp [firstFault, ih]

theorem validityCheck_unset : validityCheck Items.unset ≠ none := by
  intro h
  have := firstFault_eq_none.1 h (unsetItems Items.unset [.zoneNumber]) (by simp [checkRows])
  simp [unsetItems] at this

/-- A valid configuration holds a value for every item its role requires (R5). -/
theorem isSome_of_valid {c : Items} (h : validityCheck c = none) {i : Item}
    (hi : i ∈ requiredItems (runningRole c)) : (itemValue c i).isSome = true := by
  have row := firstFault_eq_none.1 h (unsetItems c (requiredItems (runningRole c))) (by simp [checkRows])
  simpa [Option.isSome_iff_ne_none] using List.filter_eq_nil_iff.1 row i hi

/-- The running configuration of a reset is valid exactly when the store as loaded is (R161). -/
theorem validityCheck_runningItems (c : Items) :
    (validityCheck (runningItems c)).isNone = (validityCheck (loadedItems c)).isNone := by
  unfold runningItems; split
  · rfl
  · rename_i h
    rw [Bool.eq_false_of_not_eq_true h]
    simpa [Option.isSome_iff_ne_none] using validityCheck_unset

theorem itemsOk_runningItems {c : Items} (h : ItemsOk c) : ItemsOk (runningItems c) := by
  unfold runningItems; split
  · exact itemsOk_loadedItems h
  · exact itemsOk_unset

/-- A WASH zone in use has a stage, and it is one of the four (R5, R157). -/
theorem wash_stage {s : State} (h : StoreOk s) (hc : configured s = true) (hr : role s = .wash) :
    1 ≤ itemNat s.ss.running .stage ∧ itemNat s.ss.running .stage ≤ 4 := by
  obtain ⟨-, hi, -, hv⟩ := h
  have valid : validityCheck s.ss.running = none := by simpa [hc] using hv
  have role : runningRole s.ss.running = .wash := hr
  obtain ⟨v, hs⟩ := Option.isSome_iff_exists.1 (isSome_of_valid valid (i := .stage) (by simp [role, requiredItems]))
  have bounds : 1 ≤ v.toNat ∧ v.toNat ≤ 4 := itemInRange_bounds (itemsOk_iff.1 hi .stage v hs)
  simpa [itemNat, hs] using bounds

/-- The value of a write cycle is unset, the item's default, or a value within the item's range (R159). -/
theorem writtenValue_inRange {item : Byte} {value : Word16} {s : State} {i : Item}
    (h : checkWrite item value s = .ok i) :
    ((writtenValue i value).all fun v => itemInRange i v.toNat) = true := by
  have checked : value = unsetCode ∨ (value = defaultCode ∧ (itemDefault i).isSome = true)
      ∨ itemInRange i value.toNat = true := by
    unfold checkWrite at h
    split at h
    · simp at h
    · split at h
      · simp at h
      split at h
      · simp at h
      split at h
      · simp at h
      · rename_i hv
        obtain rfl : _ = i := by simpa using h
        simpa [or_iff_not_imp_left] using hv
  unfold writtenValue; split
  · rfl
  split
  · exact itemDefault_inRange i
  · simp_all

/-! ## Events that let no record in

Most of what an event does to ZQ takes records and entries away or changes a record within its ranges, and touches no
setup value. `Retains s t` says so, and it carries the ranges from `s` to `t`. -/

/-- `t` holds no record that `s` did not hold but for changes within the ranges, no more expected entries, and the setup
values of `s`. -/
structure Retains (s t : State) : Prop where
  store : t.ss.store = s.ss.store
  running : t.ss.running = s.ss.running
  cycle : t.ss.cycle = s.ss.cycle
  inUse : configured t = configured s
  queueLength : t.zq.queue.length ≤ s.zq.queue.length
  expectedLength : t.zq.expected.length ≤ s.zq.expected.length
  records : (∀ r ∈ s.zq.queue, RecordOk r) → ∀ r ∈ t.zq.queue, RecordOk r
  entries : ∀ e ∈ t.zq.expected, ∃ e' ∈ s.zq.expected, e.record = e'.record

theorem Retains.trans {s t u : State} (h : Retains s t) (h' : Retains t u) : Retains s u where
  store := h'.store.trans h.store
  running := h'.running.trans h.running
  cycle := h'.cycle.trans h.cycle
  inUse := h'.inUse.trans h.inUse
  queueLength := h'.queueLength.trans h.queueLength
  expectedLength := h'.expectedLength.trans h.expectedLength
  records := h'.records ∘ h.records
  entries e he := by
    obtain ⟨e', he', hr⟩ := h'.entries e he
    obtain ⟨e'', he'', hr'⟩ := h.entries e' he'
    exact ⟨e'', he'', hr.trans hr'⟩

/-- An event that leaves the setup store and the service state alone, and of ZQ the expected list. -/
theorem Retains.of_records {s t : State} (hs : t.ss = s.ss) (hn : t.sn.service = s.sn.service)
    (he : t.zq.expected = s.zq.expected) (hl : t.zq.queue.length ≤ s.zq.queue.length)
    (hr : (∀ r ∈ s.zq.queue, RecordOk r) → ∀ r ∈ t.zq.queue, RecordOk r) : Retains s t where
  store := by rw [hs]
  running := by rw [hs]
  cycle := by rw [hs]
  inUse := configured_of_sn hn
  queueLength := hl
  expectedLength := by rw [he]
  records := hr
  entries e h := ⟨e, he ▸ h, rfl⟩

/-- An event that leaves both collections as they were. -/
theorem Retains.of_frame {s t : State} (hs : t.ss = s.ss) (hn : t.sn.service = s.sn.service)
    (hq : t.zq.queue = s.zq.queue) (he : t.zq.expected = s.zq.expected) : Retains s t :=
  .of_records hs hn he (by rw [hq]) (by rw [hq]; exact id)

theorem Retains.refl (s : State) : Retains s s := .of_frame rfl rfl rfl rfl

/-! ### The operations shared by the events -/

theorem sendFrame_retains (f : Frame) (s : State) : Retains s (sendFrame f s) :=
  .of_frame (by simp) (by simp) (by simp) (by simp)

theorem sendNotice_retains (k : NoticeKind) (d : Byte) (t v : Word16) (s : State) :
    Retains s (sendNotice k d t v s) :=
  .of_frame (by simp) (by simp) (by simp) (by simp)

theorem placeState_retains (s : State) : Retains s (placeState s) :=
  .of_frame (by simp) (by simp) (by simp) (by simp)

theorem announce_retains (s : State) : Retains s (announce s) :=
  .of_frame (by simp) (by simp) (by simp) (by simp)

theorem setDrive_retains (d : DriveState) (s : State) : Retains s (setDrive d s) :=
  .of_frame (by simp) (by simp) (by simp) (by simp)

theorem cancelRunOn_retains (s : State) : Retains s (cancelRunOn s) :=
  .of_frame (by simp) (by simp) (by simp) (by simp)

theorem cancelQuiet_retains (s : State) : Retains s (cancelQuiet s) :=
  .of_frame (by simp) rfl (by simp) (by simp)

theorem count_retains (f : Counts → Counts) (s : State) : Retains s (count f s) :=
  .of_frame (by simp) (by simp) (by simp) (by simp)

theorem driveSlot_retains (b : Slot) (s : State) : Retains s (driveSlot b s) :=
  .of_frame (by simp) (by simp) (by simp) (by simp)

theorem frameHeard_retains (s : State) : Retains s (frameHeard s) :=
  .of_frame (by simp) (by simp) (by simp) (by simp)

theorem leaveList_retains (n : Nat) (e : TxEntry) (s : State) : Retains s (leaveList n e s) :=
  .of_frame (by simp) (by simp) (by simp) (by simp)

theorem changeEntry_retains (f : TxEntry → TxEntry) (n : Nat) (s : State) : Retains s (changeEntry f n s) :=
  .of_frame (by simp) (by simp) (by simp) (by simp)

theorem reachExpiry_retains (t : Timer) (s : State) : Retains s (reachExpiry t s) :=
  .of_frame (by simp) (by simp) (by simp) (by simp)

theorem changeHead_retains {f : RackRecord → RackRecord} (hf : ∀ r, RecordOk r → RecordOk (f r)) (s : State) :
    Retains s (changeHead f s) := by
  refine .of_records (by simp) (by simp) (by simp) (by simp) fun h => ?_
  unfold changeHead; split
  · exact h
  · rename_i head rest hq
    simp only [hq, List.forall_mem_cons] at h ⊢
    exact ⟨hf head h.1, h.2⟩

theorem changeQueue_retains {f : RackRecord → RackRecord} (hf : ∀ r, RecordOk r → RecordOk (f r)) (s : State) :
    Retains s (changeQueue f s) := by
  refine .of_records rfl rfl rfl (by simp [changeQueue]) fun h r hr => ?_
  obtain ⟨r', hr', rfl⟩ := List.mem_map.1 hr
  exact hf r' (h r' hr')

theorem setWindows_retains (w : Option Timer) (s : State) : Retains s (setWindows w s) :=
  { Retains.refl s with
    expectedLength := by simp [setWindows]
    entries := fun e he => by
      obtain ⟨e', he', rfl⟩ := List.mem_map.1 he
      exact ⟨e', he', rfl⟩ }

theorem startRunOnIfEmpty_retains (s : State) : Retains s (startRunOnIfEmpty s) :=
  .of_frame (by simp) (by simp) (by simp) (by simp)

/-- A record that leaves the queue leaves the others as they stand (R26). -/
theorem leaveHead_zq (s : State) : (leaveHead s).zq.queue = s.zq.queue.tail
    ∧ (leaveHead s).zq.expected = s.zq.expected := by
  simp only [leaveHead]; split <;> simp

theorem leaveHead_retains (s : State) : Retains s (leaveHead s) := by
  obtain ⟨hq, he⟩ := leaveHead_zq s
  refine .of_records (by simp) (by simp) he (by simp [hq]) fun h r hr => ?_
  exact h r (List.mem_of_mem_tail (hq ▸ hr))

theorem eraseExpected_retains (n : Nat) (s : State) :
    Retains s { s with zq := { s.zq with expected := s.zq.expected.eraseIdx n } } :=
  { Retains.refl s with
    expectedLength := List.length_eraseIdx_le ..
    entries := fun e he => ⟨e, List.mem_of_mem_eraseIdx he, rfl⟩ }

theorem dropExpected_retains (n : Nat) (s : State) : Retains s (dropExpected n s) :=
  (eraseExpected_retains n s).trans (startRunOnIfEmpty_retains _)

theorem loseExpected_retains (n : Nat) (s : State) : Retains s (loseExpected n s) := by
  unfold loseExpected; split
  · exact .refl s
  · exact ((dropExpected_retains n s).trans (count_retains _ _)).trans (sendNotice_retains ..)

/-! ### Undoing an offer, halts and faults -/

theorem unbindOffer_retains (gone : Bool) (s : State) : Retains s (unbindOffer gone s) := by
  unfold unbindOffer; split
  · refine Retains.trans (t := if gone then s else changeHead unbound s) ?_ (.of_frame rfl rfl rfl rfl)
    split
    · exact .refl s
    · exact changeHead_retains (fun _ => unbound_recordOk) s
  · exact .refl s

theorem recallOffer_retains (gone : Bool) (s : State) : Retains s (recallOffer gone s) := by
  obtain ⟨-, -, -, hn, hl, he, hr, -⟩ := unbindOffer_retains gone s
  exact .of_records (by simp) (by simp) (by simp) (by simp) (by simpa using hr)

theorem stopExit_retains (s : State) : Retains s (stopExit s) := by
  unfold stopExit; split
  · exact recallOffer_retains _ s
  · exact recallOffer_retains _ s
  · exact .refl s
  · exact .refl s

theorem haltBegins_retains (s : State) : Retains s (haltBegins s) :=
  ((((setDrive_retains _ s).trans (cancelRunOn_retains _)).trans (stopExit_retains _)).trans
    (cancelQuiet_retains _)).trans (setWindows_retains _ _)

theorem changeTerms_retains {change : State → State} {s : State} (h : Retains s (change s)) :
    Retains s (changeTerms change s) := by
  simp only [changeTerms]; split
  · exact h.trans (haltBegins_retains _)
  split
  · exact h.trans (setWindows_retains _ _)
  · exact h

/-- Entry to FAULTED takes a node in service, which is configured and stays so (R14). -/
theorem enterFaulted_retains {s u : State} (h : Retains s u) (hu : inService u = true) :
    Retains s (enterFaulted u) := by
  have hc : configured u = true := by
    simp only [inService, Bool.or_eq_true, beq_iff_eq] at hu
    rcases hu with hu | hu <;> simp [configured, hu]
  have faulted : Retains s { u with sn := { u.sn with service := .faulted } } :=
    { h with inUse := hc.symm.trans h.inUse }
  exact ((((faulted.trans (setDrive_retains _ _)).trans (cancelRunOn_retains _)).trans (stopExit_retains _)).trans
    (cancelQuiet_retains _)).trans (announce_retains _)

theorem latchFault_retains (k : FaultKind) (d : Byte) (t v : Word16) (s : State) :
    Retains s (latchFault k d t v s) := by
  simp only [latchFault]; split
  · exact .refl s
  refine Retains.trans ?_ (sendNotice_retains ..)
  split
  · rename_i h
    simp only [Bool.and_eq_true] at h
    exact enterFaulted_retains (.of_frame rfl rfl rfl rfl) h.2
  · exact .of_frame rfl rfl rfl rfl

/-! ### The tests an event ends with -/

theorem applyJudgement_retains (s : State) : Retains s (applyJudgement s) := by
  unfold applyJudgement; split
  · simp only []; split
    · exact .refl s
    · rename_i head rest j _ _ _
      have judged : Retains s (count (countJudged j.outlet) (changeHead (judgedRecord j.outlet)
          { s with sl := { judgement := some { j with applied := true } } })) := by
        refine Retains.trans ?_ (count_retains _ _)
        refine Retains.trans ?_ (changeHead_retains (fun _ => judgedRecord_recordOk _) _)
        exact .of_frame rfl rfl rfl rfl
      split
      · exact judged.trans (sendNotice_retains ..)
      · exact judged
  · exact .refl s

theorem prepareHead_retains (s : State) : Retains s (prepareHead s) := by
  unfold prepareHead; split
  · exact changeHead_retains (fun _ => freezeRecord_recordOk _) s
  · exact applyJudgement_retains s
  · have bound (c : Option CallKey) : Retains s (changeHead (fun r => { r with bound := c }) s) :=
      changeHead_retains (f := fun r => { r with bound := c }) (fun _ h => h) s
    exact (bound _).trans (.of_frame rfl rfl rfl rfl)
  all_goals exact .refl s

theorem refuseOffer_retains (z : Option Addr) (s : State) : Retains s (refuseOffer z s) :=
  (unbindOffer_retains _ s).trans (.of_frame rfl rfl rfl rfl)

theorem makeOffer_retains (o : Outlet) (z : Addr) (s : State) : Retains s (makeOffer o z s) := by
  have offered : Retains s (takeSerial o (prepareHead s)) :=
    (prepareHead_retains s).trans (.of_frame rfl rfl rfl rfl)
  simp only [makeOffer]; split
  · exact offered.trans (sendFrame_retains ..)
  · exact (offered.trans (sendFrame_retains ..)).trans (refuseOffer_retains _ _)

theorem testOffer_retains (s : State) : Retains s (testOffer s) := by
  unfold testOffer; split
  · split
    · exact .refl s
    · exact makeOffer_retains ..
  · exact .refl s

theorem settle_retains (s : State) : Retains s (settle s) := by
  unfold settle; split
  · have judged : Retains s (testNeed (testQuiet (formJudgement s))) :=
      .of_frame (by simp) (by simp) (by simp) (by simp)
    have driven (u : State) : Retains u (testDrive u) := .of_frame (by simp) (by simp) (by simp) (by simp)
    exact ((judged.trans (testOffer_retains _)).trans (driven _)).trans (announce_retains _)
  · exact .refl s

theorem Retains.settle {s t : State} (h : Retains s t) : Retains s (settle t) := h.trans (settle_retains t)

/-! ### The outcomes of an offer -/

theorem acceptOffer_retains (w : Word16) (s : State) : Retains s (acceptOffer w s) := by
  have answered : Retains s (if role s = .spur then answerCall w s else s) := by
    split
    · refine .of_frame (by simp) ?_ (by simp) (by simp)
      unfold answerCall; split <;> simp
    · exact .refl s
  simp only [acceptOffer]
  generalize (if role s = .spur then answerCall w s else s) = u at answered
  refine answered.trans ?_
  split
  · exact recallOffer_retains ..
  split
  · exact .refl u
  split <;> exact .of_frame (by simp) (by simp) (by simp) (by simp)

theorem endRelease_retains (s : State) : Retains s (endRelease s) :=
  (leaveHead_retains s).trans (.of_frame rfl rfl rfl rfl)

theorem removeHead_retains (s : State) : Retains s (removeHead s) := by
  unfold removeHead; split
  · exact .refl s
  · rename_i head rest hq
    have removed (t v : Word16) (f : Counts → Counts) :
        Retains s (sendNotice .removed 0 t v (count f (leaveHead s))) :=
      ((leaveHead_retains s).trans (count_retains _ _)).trans (sendNotice_retains ..)
    simp only []; split
    · exact (removed ..).trans (.of_frame rfl rfl rfl rfl)
    · exact (removed ..).trans (recallOffer_retains ..)
    all_goals exact removed ..

/-! ## Setup values, queue and records within their ranges (R21, R22, R24, R28, R157, R161) -/

/-- What every step keeps: the setup values and ZQ's collections within their ranges. -/
abbrev RangesOk (s : State) : Prop := StoreOk s ∧ QueueOk s

theorem Retains.rangesOk {s t : State} (h : Retains s t) (hs : RangesOk s) : RangesOk t := by
  obtain ⟨⟨hst, hru, hcy, hva⟩, hql, hel, hqr, her⟩ := hs
  refine ⟨⟨h.store ▸ hst, h.running ▸ hru, h.cycle ▸ hcy, by rw [h.inUse, h.running]; exact hva⟩,
    h.queueLength.trans hql, h.expectedLength.trans ?_, h.records hqr, fun e he => ?_⟩
  · simpa [capacity, h.running] using hel
  · obtain ⟨e', he', hr⟩ := h.entries e he
    rw [hr]; exact her e' he'

theorem whileRunning_rangesOk {f : State → State} {s : State} (h : RangesOk s) (hf : RangesOk (f s)) :
    RangesOk (whileRunning f s) := by
  unfold whileRunning; split
  · exact h
  · exact hf

/-- An expiry keeps the ranges when its effect does, whenever it is taken. -/
theorem onExpiry_rangesOk {o : Option Timer} {f : State → State} {s : State} (h : RangesOk s)
    (hf : ∀ u, u.sn = s.sn → RangesOk u → RangesOk (f u)) : RangesOk (onExpiry o f s) := by
  unfold onExpiry; split
  · exact h
  · exact hf _ (by simp) ((reachExpiry_retains _ s).rangesOk h)

/-- An expiry whose effect lets no record in. -/
theorem onExpiry_retains (o : Option Timer) {f : State → State} (hf : ∀ u, Retains u (f u)) (s : State) :
    Retains s (onExpiry o f s) := by
  unfold onExpiry; split
  · exact .refl s
  · exact (reachExpiry_retains _ s).trans (hf _)

/-! ### Resets (R161) -/

theorem resetNode_blocks (cause : ResetCause) (s : State) :
    (resetNode cause s).zq = ZoneQueue.reset
      ∧ (resetNode cause s).ss = SetupStore.reset s.ss.store (runningItems s.ss.store)
      ∧ configured (resetNode cause s) = (validityCheck (loadedItems s.ss.store)).isNone := by
  have service {u : State} (h : u.sn.service = if (validityCheck (loadedItems s.ss.store)).isNone then
      .recovering else .unconfigured) : configured u = (validityCheck (loadedItems s.ss.store)).isNone := by
    rw [configured, h]; cases (validityCheck (loadedItems s.ss.store)).isNone <;> rfl
  simp only [resetNode]; split
  · exact ⟨by simp, by simp, service (by simp [StopNotice.reset])⟩
  · exact ⟨rfl, rfl, service rfl⟩

theorem resetNode_rangesOk (cause : ResetCause) {s : State} (h : RangesOk s) : RangesOk (resetNode cause s) := by
  obtain ⟨⟨hst, -, -, -⟩, -⟩ := h
  obtain ⟨hz, hs, hc⟩ := resetNode_blocks cause s
  refine ⟨⟨?_, ?_, ?_, ?_⟩, ?_⟩
  · rw [hs]; exact hst
  · rw [hs]; exact itemsOk_runningItems hst
  · simp [hs, SetupStore.reset]
  · rw [hc, hs]; exact (validityCheck_runningItems _).symm
  · simp [QueueOk, hz, ZoneQueue.reset]

/-! ### Records that join the queue (R25, R31, R36, R100) -/

theorem strayRecord_recordOk (s : State) : RecordOk (strayRecord s) :=
  recordOk_without_results (by simp [strayRecord]) rfl

theorem joining_recordOk {r : RackRecord} {s : State} (h : StoreOk s) (hc : configured s = true) (hr : RecordOk r) :
    RecordOk (joining s r) := by
  unfold joining; split
  · rename_i hw
    simp only [Bool.and_eq_true, decide_eq_true_eq] at hw
    obtain ⟨h1, h4⟩ := wash_stage h hc hw.1
    exact withStageEntry_recordOk h1 h4 hr
  · exact hr

theorem joinQueue_rangesOk {r : RackRecord} {s : State} (h : RangesOk s) (hc : configured s = true)
    (hl : s.zq.queue.length < 8) (hr : RecordOk r) : RangesOk (joinQueue r s) := by
  obtain ⟨hs, hql, hel, hqr, her⟩ := h
  refine ⟨hs, by simpa [joinQueue] using hl, hel, fun r' hr' => ?_, her⟩
  rcases List.mem_append.1 hr' with hr' | hr'
  · exact hqr r' hr'
  · rw [List.mem_singleton.1 hr']
    exact joining_recordOk hs hc hr

theorem makeStray_rangesOk (d : Byte) (v : Word16) {s : State} (h : RangesOk s) (hc : configured s = true)
    (hl : s.zq.queue.length < 8) : RangesOk (makeStray d v s) :=
  ((count_retains _ _).trans (sendNotice_retains ..)).rangesOk
    (joinQueue_rangesOk h hc hl (strayRecord_recordOk s))

theorem arrive_rangesOk (n : Nat) {s : State} (h : RangesOk s) (hc : configured s = true)
    (hl : s.zq.queue.length < 8) : RangesOk (arrive n s) := by
  unfold arrive; split
  · exact h
  · rename_i e he
    have ⟨_, _, _, _, her⟩ := h
    exact joinQueue_rangesOk ((eraseExpected_retains n s).rangesOk h) hc hl
      (her e (List.mem_of_getElem? he)).1

theorem overfull_retains (inlet : Inlet) (s : State) : Retains s (overfull inlet s) := by
  simp only [overfull]; split
  · exact latchFault_retains ..
  · exact (latchFault_retains ..).trans (loseExpected_retains _ _)

theorem rackAtInlet_rangesOk (inlet : Inlet) {s : State} (h : RangesOk s) (hc : configured s = true) :
    RangesOk (rackAtInlet inlet s) := by
  unfold rackAtInlet; split
  · exact (overfull_retains inlet s).rangesOk h
  · rename_i hl
    split
    · exact arrive_rangesOk _ h hc (by omega)
    · exact makeStray_rangesOk _ _ h hc (by omega)

/-! ### Records that join the expected list (R29, R71, R73) -/

/-- A PASS is acknowledged only while a place is free (R71). -/
theorem passDecision_room {source : Addr} {s : State} {u : Inlet} (h : passDecision source s = some u) :
    s.zq.queue.length + s.zq.expected.length < capacity s := by
  unfold passDecision at h
  split at h
  · cases h
  split at h
  · cases h
  split at h
  · cases h
  split at h
  · cases h
  · omega

theorem judgeCall_retains (a : Addr) (r : RackRecord) (s : State) : Retains s (judgeCall a r s) := by
  refine .of_frame (by simp) ?_ (by simp) (by simp)
  unfold judgeCall; (repeat' split) <;> simp

theorem joinExpected_rangesOk (source : Addr) (body : List Byte) (u : Inlet) {s : State} (h : RangesOk s)
    (hroom : s.zq.queue.length + s.zq.expected.length < capacity s) :
    RangesOk (joinExpected source body u s) := by
  obtain ⟨hs, hql, hel, hqr, her⟩ := h
  unfold joinExpected
  generalize (if role s = .merge then arbitrated u s else s.ma) = ma
  have joined : RangesOk (cancelQuiet (cancelRunOn { s with
      zq := { s.zq with expected := s.zq.expected ++ [passEntry source body s] }, ma := ma })) := by
    refine ⟨hs, hql, ?_, hqr, fun e he => ?_⟩
    · change (s.zq.expected ++ [passEntry source body s]).length ≤ capacity s
      simp only [List.length_append, List.length_singleton]; omega
    · rcases List.mem_append.1 he with he | he
      · exact her e he
      · rw [List.mem_singleton.1 he]
        exact clampedRecord_ok body
  simp only []; split
  · exact (judgeCall_retains ..).rangesOk joined
  · exact joined

theorem takePass_rangesOk (source : Addr) (body : List Byte) {s : State} (h : RangesOk s) :
    RangesOk (takePass source body s) := by
  unfold takePass; split
  · exact (driveSlot_retains _ s).rangesOk h
  · rename_i u hu
    exact ((settle_retains _).trans (driveSlot_retains _ _)).rangesOk
      (joinExpected_rangesOk source body u h (passDecision_room hu))

/-! ### Frames received (R148 to R150) -/

theorem addStop_retains (a : Addr) (s : State) : Retains s (addStop a s) := by
  unfold addStop; split
  · exact .of_frame rfl rfl rfl rfl
  · exact .refl s

theorem removeStop_retains (a : Addr) (s : State) : Retains s (removeStop a s) := by
  unfold removeStop; (repeat' split)
  · exact .of_frame rfl rfl rfl rfl
  · exact .of_frame rfl rfl rfl rfl
  · exact .refl s

theorem takeRecall_retains (a : Addr) (n : Byte) (s : State) : Retains s (takeRecall a n s) := by
  unfold takeRecall; split
  · exact driveSlot_retains _ s
  · exact ((dropExpected_retains _ s).trans (settle_retains _)).trans (driveSlot_retains _ _)

theorem takeSettled_retains (st n : Byte) (s : State) : Retains s (takeSettled st n s) := by
  unfold takeSettled; split
  · exact .refl s
  split
  · exact Retains.trans (t := expireCall _ s) (.of_frame rfl rfl rfl rfl) (settle_retains _)
  · exact .refl s

theorem takeCall_retains (st n : Byte) (s : State) : Retains s (takeCall st n s) := by
  unfold takeCall; split
  · exact Retains.trans (.of_frame (by simp) (by simp) (by simp) (by simp)) (settle_retains _)
  · exact .refl s

theorem takeState_retains (a : Addr) (b : StateBody) (s : State) : Retains s (takeState a b s) := by
  unfold takeState; split
  · exact Retains.trans (.of_frame (by simp) (by simp) (by simp) (by simp)) (settle_retains _)
  · exact .refl s

theorem unlatch_retains (code : Byte) (s : State) : Retains s (unlatch code s) := by
  refine { Retains.refl s with inUse := ?_ }
  simp only [unlatch, configured]; split
  · rename_i h
    simp only [Bool.and_eq_true, decide_eq_true_eq] at h
    rw [h.1]; rfl
  · rfl

theorem takeClear_retains (code : Byte) (s : State) : Retains s (takeClear code s) :=
  ((unlatch_retains code s).trans (settle_retains _)).trans (driveSlot_retains _ _)

theorem takeAsk_rangesOk (source target : Addr) (topic index : Byte) {s : State} (h : RangesOk s) :
    RangesOk (takeAsk source target topic index s) := by
  have answered := (driveSlot_retains .ack s).rangesOk h
  simp only [takeAsk]; split
  · simp only [replyToAsk]; split
    · exact resetNode_rangesOk .remote answered
    · exact (sendFrame_retains ..).rangesOk answered
  · exact answered

/-- A write that is taken starts a write cycle with a value in its item's range; a write refused clears the latch
(R159). -/
theorem decideWrite_rangesOk (source target : Addr) (item : Byte) (value : Word16) {s : State} (h : RangesOk s) :
    RangesOk (decideWrite source target item value s) := by
  unfold decideWrite; split
  · refine (sendFrame_retains ..).rangesOk ?_
    exact Retains.rangesOk { Retains.refl s with } h
  · rename_i i hi
    obtain ⟨⟨hst, hru, -, hva⟩, hq⟩ := h
    exact ⟨⟨hst, hru, writtenValue_inRange hi, hva⟩, hq⟩

theorem takeSetup_rangesOk (source : Addr) {effect : State → State} {s : State} (h : RangesOk s)
    (he : RangesOk (effect s)) : RangesOk (takeSetup source effect s) := by
  unfold takeSetup; split
  · exact (driveSlot_retains _ _).rangesOk he
  · exact (driveSlot_retains _ s).rangesOk h

theorem deliver_rangesOk (f : Frame) {s : State} (h : RangesOk s) : RangesOk (deliver f s) := by
  unfold deliver; split
  · exact ((changeTerms_retains (addStop_retains _ s)).trans (settle_retains _)).rangesOk h
  · exact ((changeTerms_retains (removeStop_retains _ s)).trans (settle_retains _)).rangesOk h
  · exact takePass_rangesOk _ _ h
  · exact (takeRecall_retains ..).rangesOk h
  · exact (takeSettled_retains ..).rangesOk h
  · exact (takeSettled_retains ..).rangesOk h
  · exact (takeCall_retains ..).rangesOk h
  · exact (takeState_retains ..).rangesOk h
  · exact takeAsk_rangesOk _ _ _ _ h
  · exact (takeClear_retains ..).rangesOk h
  · exact takeSetup_rangesOk _ h (Retains.rangesOk { Retains.refl s with } h)
  · exact takeSetup_rangesOk _ h (decideWrite_rangesOk _ _ _ _ h)
  · exact takeSetup_rangesOk _ h ((sendFrame_retains ..).rangesOk h)
  all_goals exact h

theorem deliverAtSetup_rangesOk (f : Frame) {s : State} (h : RangesOk s) : RangesOk (deliverAtSetup f s) := by
  unfold deliverAtSetup; split
  · exact deliver_rangesOk f h
  · exact h

theorem takeGood_rangesOk (f : Frame) {s : State} (h : RangesOk s) : RangesOk (takeGood f s) := by
  unfold takeGood; split
  · split
    · exact (driveSlot_retains _ s).rangesOk h
    · exact h
  split
  · exact deliver_rangesOk f h
  split
  · exact deliverAtSetup_rangesOk f h
  · exact h

theorem testDuplicate_retains (f : Frame) (s : State) : Retains s (testDuplicate f s) := by
  unfold testDuplicate; split
  · exact latchFault_retains ..
  · exact .refl s

theorem acceptGood_rangesOk (f : Frame) {s : State} (h : RangesOk s) : RangesOk (acceptGood f s) := by
  unfold acceptGood; split
  · exact h
  split
  · exact takeGood_rangesOk f ((testDuplicate_retains f s).rangesOk h)
  split
  · exact deliverAtSetup_rangesOk f h
  · exact h

theorem countReceiveError_retains (s : State) : Retains s (countReceiveError (frameHeard s)) :=
  .of_frame rfl rfl rfl rfl

/-- Whatever frame a node receives. -/
theorem receiveFrame_rangesOk (f : Frame) {s : State} (h : RangesOk s) : RangesOk (receiveFrame f s) := by
  unfold receiveFrame; split
  · exact h
  split
  · exact acceptGood_rangesOk f ((frameHeard_retains s).rangesOk h)
  · exact (countReceiveError_retains s).rangesOk h

theorem receiveLine_rangesOk (f : LineFrame) {s : State} (h : RangesOk s) : RangesOk (receiveLine f s) := by
  unfold receiveLine; split
  · exact h
  split
  · exact (countReceiveError_retains s).rangesOk h
  · exact receiveFrame_rangesOk f.frame h

/-! ### Frames sent (R145 to R147, R156) -/

theorem tellOwner_rangesOk (outcome : SendOutcome) (f : Frame) {s : State} (h : RangesOk s) :
    RangesOk (tellOwner outcome f s) := by
  unfold tellOwner; split
  · exact resetNode_rangesOk .remote h
  split
  · refine Retains.rangesOk (Retains.trans ?_ (settle_retains _)) h
    cases outcome with
    | acknowledged => exact acceptOffer_retains ..
    | held => exact refuseOffer_retains ..
    | failed => exact refuseOffer_retains ..
  · exact h

theorem failFrame_rangesOk (n : Nat) (e : TxEntry) {s : State} (h : RangesOk s) : RangesOk (failFrame n e s) := by
  refine tellOwner_rangesOk _ _ (Retains.rangesOk ?_ h)
  split
  · exact .of_frame rfl rfl rfl rfl
  · refine Retains.trans ?_ (sendNotice_retains ..)
    exact .of_frame rfl rfl rfl rfl

theorem failAttempt_rangesOk (n : Nat) (e : TxEntry) {s : State} (h : RangesOk s) :
    RangesOk (failAttempt n e s) := by
  unfold failAttempt; split
  · exact (changeEntry_retains ..).rangesOk h
  split
  · exact failFrame_rangesOk n e h
  · exact (changeEntry_retains ..).rangesOk h

/-! ### The commands of the field pins -/

theorem setEntryEye_retains (inlet : Inlet) (b : Bool) (s : State) : Retains s (setEntryEye inlet b s) := by
  cases inlet <;> exact .of_frame rfl rfl rfl rfl

theorem setExitEye_retains (b : Bool) (s : State) : Retains s (setExitEye b s) := .of_frame rfl rfl rfl rfl

theorem entryEyeBlocked_rangesOk (inlet : Inlet) {s : State} (h : RangesOk s) :
    RangesOk (let s := setEntryEye inlet true s
      if takesEntryEye inlet s then settle (rackAtInlet inlet s) else s) := by
  have seen := (setEntryEye_retains inlet true s).rangesOk h
  simp only []; split
  · rename_i ht
    simp only [takesEntryEye, Bool.and_eq_true] at ht
    exact (settle_retains _).rangesOk (rackAtInlet_rangesOk inlet seen ht.1)
  · exact seen

theorem exitEyeBlocked_rangesOk {s : State} (h : RangesOk s) :
    RangesOk (let s := setExitEye true s
      settle (if configured s && s.zq.queue.isEmpty then makeStray 0 0 s else s)) := by
  have seen := (setExitEye_retains true s).rangesOk h
  refine (settle_retains _).rangesOk ?_
  split
  · rename_i hs
    simp only [Bool.and_eq_true, List.isEmpty_iff] at hs
    exact makeStray_rangesOk 0 0 seen hs.1 (by simp [hs.2])
  · exact seen

theorem rackGoneFromExit_retains (s : State) : Retains s (rackGoneFromExit s) := by
  unfold rackGoneFromExit; split
  · exact .refl s
  split
  · exact endRelease_retains s
  · exact removeHead_retains s

theorem pressEmpty_retains (s : State) : Retains s (pressEmpty s) := by
  unfold pressEmpty; split
  · exact .refl s
  split
  · exact .refl s
  split
  · exact sendNotice_retains ..
  · exact changeHead_retains (fun _ _ => recordOk_without_results (by simp [emptied]) rfl) s

theorem rackFull_retains (s : State) : Retains s
    (changeHead (fun r => if r.content = .soiled then r else filled (runningStation s.ss.running) r) s) := by
  refine changeHead_retains (fun r hr => ?_) s
  split <;> exact hr

/-- A tag changes no other field of a record, and of the queue only the tail. -/
theorem tagTail_recordOk (tag : Option (BitVec 12)) {l : List RackRecord} (h : ∀ r ∈ l, RecordOk r) :
    ∀ r ∈ tagTail tag l, RecordOk r := by
  induction l using tagTail.induct with
  | case1 => simp [tagTail]
  | case2 r =>
    intro r' hr'
    rw [List.mem_singleton.1 hr']
    exact h r (by simp)
  | case3 r rest hne ih =>
    rw [tagTail]
    · simp only [List.forall_mem_cons] at h ⊢
      exact ⟨h.1, ih h.2⟩
    · exact hne

theorem length_tagTail (tag : Option (BitVec 12)) (l : List RackRecord) : (tagTail tag l).length = l.length := by
  induction l using tagTail.induct with
  | case1 => rfl
  | case2 r => rfl
  | case3 r rest hne ih =>
    rw [tagTail]
    · simp [ih]
    · exact hne

theorem applyRead_retains (value : Word16) (s : State) : Retains s (applyRead value s) := by
  have tagged : Retains s { s with zq := { s.zq with queue := tagTail (tagOfWord value) s.zq.queue } } :=
    .of_records rfl rfl rfl (length_tagTail _ _).le (tagTail_recordOk _)
  unfold applyRead; split
  · exact .refl s
  · simp only []; split
    · exact tagged
    · exact tagged.trans (sendNotice_retains ..)

theorem sendStop_retains (s : State) : Retains s (sendStop s) :=
  .of_frame (by simp [sendStop]) (by simp [sendStop]) (by simp [sendStop]) (by simp [sendStop])

theorem pressEstop_retains (s : State) : Retains s (pressEstop s) :=
  .of_frame (by simp [pressEstop, sendStop]) (by simp [pressEstop, sendStop]) (by simp [pressEstop, sendStop])
    (by simp [pressEstop, sendStop])

theorem releaseEstop_retains (s : State) : Retains s (releaseEstop s) :=
  .of_frame (by simp [releaseEstop]) (by simp [releaseEstop]) (by simp [releaseEstop]) (by simp [releaseEstop])

/-! ### The expiries of timers -/

theorem startHold_retains (s : State) : Retains s
    (let s := changeTerms (fun s => { s with sn := { s.sn with startHold := none } }) s
     settle (if configured s then startSampling s else s)) := by
  have ended : Retains s (changeTerms (fun s => { s with sn := { s.sn with startHold := none } }) s) :=
    changeTerms_retains (.of_frame rfl rfl rfl rfl)
  refine (ended.trans ?_).trans (settle_retains _)
  split
  · exact .of_frame rfl rfl rfl rfl
  · exact .refl _

/-- The end of the quiet timer makes a RECOVERING node SERVING, which is configured as well (R12). -/
theorem quietTimer_rangesOk {s : State} (h : RangesOk s) (hs : s.sn.service = .recovering) :
    RangesOk (settle { s with sn := { s.sn with service := .serving, quiet := none } }) := by
  have served : Retains s { s with sn := { s.sn with service := .serving, quiet := none } } :=
    { Retains.refl s with inUse := by rw [configured, configured, hs]; rfl }
  exact (served.trans (settle_retains _)).rangesOk h

theorem repeatNotice_retains (k : FaultKind) (f : LatchedFault) (s : State) : Retains s (repeatNotice k f s) := by
  refine Retains.trans ?_ (sendNotice_retains ..)
  exact .of_frame rfl rfl rfl rfl

theorem travelDone_retains (s : State) : Retains s (travelDone s) := .of_frame rfl rfl rfl rfl

theorem expireCall_retains (key : CallKey) (s : State) : Retains s (expireCall key s) := .of_frame rfl rfl rfl rfl

theorem releaseStuck_retains (s : State) : Retains s (releaseStuck s) :=
  (recallOffer_retains false s).trans (latchFault_retains ..)

theorem loseNeighbour_retains (z : Addr) (s : State) : Retains s (loseNeighbour z s) := by
  refine Retains.trans ?_ (sendNotice_retains ..)
  exact .of_frame rfl rfl rfl rfl

theorem repeatCall_retains (e : CallEntry) (s : State) : Retains s (repeatCall e s) := by
  refine Retains.trans ?_ (sendFrame_retains ..)
  exact .of_frame rfl rfl rfl rfl

/-- The end of a write cycle stores a value within the range of its item (R159). -/
theorem completeWrite_rangesOk {w : WriteCycle} {s : State} (h : RangesOk s)
    (hw : (w.value.all fun v => itemInRange w.item v.toNat) = true) : RangesOk (completeWrite w s) := by
  refine (sendFrame_retains ..).rangesOk ?_
  obtain ⟨⟨hst, hru, -, hva⟩, hq⟩ := h
  exact ⟨⟨itemsOk_setItem hst w.item hw, hru, rfl, hva⟩, hq⟩

theorem judgeCurrent_retains (n : Nat) (s : State) : Retains s (judgeCurrent n s) := by
  simp only [judgeCurrent]; split
  · exact .refl s
  split
  · exact .of_frame rfl rfl rfl rfl
  split
  · exact .of_frame rfl rfl rfl rfl
  split
  · exact .of_frame rfl rfl rfl rfl
  · refine Retains.trans ?_ (latchFault_retains ..)
    exact .of_frame rfl rfl rfl rfl

theorem markFault_recordOk {r : RackRecord} (h : RecordOk r) : RecordOk (changePending markFault r) :=
  changePending_recordOk (f := markFault) (fun _ => rfl) (fun _ hc => hc) h

theorem addCredit_recordOk (n : Nat) {r : RackRecord} (h : RecordOk r) :
    RecordOk (changePending (addCredit n) r) :=
  changePending_recordOk (f := addCredit n) (fun _ => rfl) (fun _ _ => min_le_left _ _) h

theorem faultedSample_retains (probe : AdcCode) (s : State) : Retains s (faultedSample probe s) := by
  have marked : Retains s (changeQueue (changePending markFault) s) :=
    changeQueue_retains (fun _ => markFault_recordOk) s
  have counted (n : Nat) : Retains s (setFaultCount n (changeQueue (changePending markFault) s)) :=
    marked.trans (.of_frame rfl rfl rfl rfl)
  simp only [faultedSample]; split
  · exact (counted _).trans (latchFault_retains ..)
  · exact counted _

theorem goodSample_retains (probe : AdcCode) (s : State) : Retains s (goodSample probe s) := by
  have counted : Retains s (setFaultCount 0 s) := .of_frame rfl rfl rfl rfl
  simp only [goodSample]; split
  · exact counted
  · exact counted.trans (changeQueue_retains (fun _ => addCredit_recordOk _) _)

theorem takeSample_retains (probe current : AdcCode) (s : State) : Retains s (takeSample probe current s) := by
  have converted : Retains s (convert probe current s) := .of_frame rfl rfl rfl rfl
  refine (converted.trans (judgeCurrent_retains (currentOf (itemNat s.ss.running .iSpan) current) _)).trans ?_
  simp only [takeSample]; split
  · split
    · exact faultedSample_retains ..
    · exact goodSample_retains ..
  · exact .refl _

/-! ### Every command -/

/-- The next state that a command answers has its setup values and its records within their ranges. -/
def AnswerOk (a : Answer) : Prop := ∀ t, a = .next t → RangesOk t

theorem answerOk_next {t : State} (h : RangesOk t) : AnswerOk (.next t) := by
  rintro _ ⟨⟩
  exact h

section Commands

variable {s : State} (h : RangesOk s)
include h

theorem answerOk_running {f : State → State} (hf : RangesOk (f s)) : AnswerOk (.next (whileRunning f s)) :=
  answerOk_next (whileRunning_rangesOk h hf)

theorem answerOk_retains {f : State → State} (hf : Retains s (f s)) : AnswerOk (.next (whileRunning f s)) :=
  answerOk_running h (hf.rangesOk h)

theorem answerOk_expiry (o : Option Timer) {f : State → State} (hf : ∀ u, Retains u (f u)) :
    AnswerOk (.next (whileRunning (fun s => onExpiry o f s) s)) :=
  answerOk_retains h (onExpiry_retains o hf s)

theorem answerOk_received (f : Frame) : AnswerOk (.next (whileRunning (receiveFrame f) s)) :=
  answerOk_running h (receiveFrame_rangesOk f h)

theorem execExitEyeClear_answerOk : AnswerOk (execExitEyeClear s) := by
  refine answerOk_retains h (Retains.settle ?_)
  split
  · exact (setExitEye_retains _ s).trans (rackGoneFromExit_retains _)
  · exact setExitEye_retains _ s

theorem execRackFullPress_answerOk : AnswerOk (execRackFullPress s) := by
  refine answerOk_retains h ?_
  split
  · exact (rackFull_retains s).settle
  · exact .refl s

theorem execRackEmptyPress_answerOk : AnswerOk (execRackEmptyPress s) := by
  refine answerOk_retains h ?_
  split
  · exact (pressEmpty_retains s).settle
  · exact .refl s

theorem execStationOpened_answerOk : AnswerOk (execStationOpened s) := by
  refine answerOk_retains h ?_
  split
  · exact Retains.settle (.of_frame rfl rfl rfl rfl)
  · exact .refl s

theorem execStationClosed_answerOk : AnswerOk (execStationClosed s) := by
  refine answerOk_retains h ?_
  split
  · exact Retains.settle (.of_frame (by simp) (by simp) (by simp) (by simp))
  · exact .refl s

theorem execTagRead_answerOk (value : Word16) : AnswerOk (execTagRead value s) := by
  refine answerOk_retains h ?_
  split
  · exact applyRead_retains value s
  · exact .refl s

theorem execEstopReleased_answerOk : AnswerOk (execEstopReleased s) := by
  refine answerOk_retains h ?_
  split
  · exact .of_frame rfl rfl rfl rfl
  · exact .refl s

theorem execQuietTimerExpiry_answerOk : AnswerOk (execQuietTimerExpiry s) := by
  refine answerOk_running h ?_
  split
  · rename_i hr
    exact onExpiry_rangesOk h fun u hu hok => quietTimer_rangesOk hok (by rw [hu]; exact hr)
  · exact h

theorem execNoticeRepeatExpiry_answerOk (k : FaultKind) : AnswerOk (execNoticeRepeatExpiry k s) := by
  refine answerOk_retains h ?_
  split
  · exact .refl s
  · exact onExpiry_retains _ (repeatNotice_retains k _) s

theorem execArrivalWindowExpiry_answerOk (n : Nat) : AnswerOk (execArrivalWindowExpiry n s) := by
  refine answerOk_retains h ?_
  split
  · exact .refl s
  · exact onExpiry_retains _ (fun u => (loseExpected_retains n u).settle) s

theorem execDiverterTravelExpiry_answerOk : AnswerOk (execDiverterTravelExpiry s) := by
  refine answerOk_retains h ?_
  split
  · exact onExpiry_retains _ (fun u => (travelDone_retains u).settle) s
  · exact .refl s

theorem execReleaseLimitExpiry_answerOk : AnswerOk (execReleaseLimitExpiry s) := by
  refine answerOk_retains h ?_
  split
  · exact onExpiry_retains _ (fun u => (releaseStuck_retains u).settle) s
  · exact .refl s

theorem execNeighbourSilenceExpiry_answerOk (z : Addr) : AnswerOk (execNeighbourSilenceExpiry z s) := by
  refine answerOk_retains h ?_
  split
  · exact .refl s
  · exact onExpiry_retains _ (fun u => (loseNeighbour_retains z u).settle) s

theorem execCallRepeatExpiry_answerOk (n : Byte) : AnswerOk (execCallRepeatExpiry n s) := by
  refine answerOk_retains h ?_
  split
  · exact onExpiry_retains _ (repeatCall_retains _) s
  · exact .refl s

theorem execCallExpiry_answerOk (st : Station) (n : Byte) : AnswerOk (execCallExpiry st n s) := by
  refine answerOk_retains h ?_
  split
  · exact onExpiry_retains _ (fun u => (expireCall_retains _ u).settle) s
  · exact .refl s

theorem execWriteCycleCompletion_answerOk : AnswerOk (execWriteCycleCompletion s) := by
  refine answerOk_running h ?_
  split
  · exact h
  · rename_i w hw
    have ⟨⟨_, _, hcy, _⟩, _⟩ := h
    exact onExpiry_rangesOk h fun u _ hok => completeWrite_rangesOk hok (by simpa [hw] using hcy)

theorem execLineBusy_answerOk : AnswerOk (execLineBusy s) := by
  refine answerOk_retains h ?_
  split
  · exact frameHeard_retains s
  · exact .refl s

theorem execFrameSendStart_answerOk : AnswerOk (execFrameSendStart s) := by
  refine answerOk_retains h ?_
  split
  · split
    · exact .refl s
    · exact (changeEntry_retains _ _ s).trans (frameHeard_retains _)
  · exact .refl s

theorem execArbitrationLost_answerOk : AnswerOk (execArbitrationLost s) := by
  refine answerOk_retains h ?_
  split
  · exact .refl s
  · exact changeEntry_retains _ _ s

theorem execSelfCheckError_answerOk : AnswerOk (execSelfCheckError s) := by
  refine answerOk_running h ?_
  split
  · exact h
  · exact failAttempt_rangesOk _ _ (Retains.rangesOk { Retains.refl s with } h)

theorem execBroadcastSent_answerOk : AnswerOk (execBroadcastSent s) := by
  refine answerOk_retains h ?_
  split
  · exact .refl s
  split
  · exact leaveList_retains ..
  · exact .refl s

theorem execReplySlotRead_answerOk (ack hold : Bool) : AnswerOk (execReplySlotRead ack hold s) := by
  refine answerOk_running h ?_
  split
  · exact h
  split
  · exact h
  split
  · exact tellOwner_rangesOk _ _ ((leaveList_retains ..).rangesOk h)
  split
  · exact tellOwner_rangesOk _ _ ((leaveList_retains ..).rangesOk h)
  · exact failAttempt_rangesOk _ _ h

theorem execInsertionError_answerOk : AnswerOk (execInsertionError s) := by
  refine answerOk_retains h ?_
  split
  · exact .refl s
  · exact .of_frame rfl rfl rfl rfl

theorem execAbortMark_answerOk : AnswerOk (execAbortMark s) := by
  refine answerOk_retains h ?_
  split
  · exact .refl s
  · exact .of_frame rfl rfl rfl rfl

/-- Every command keeps the setup values, the queue, the expected list and their records within their ranges. -/
theorem exec_answerOk (c : Instr) : AnswerOk (exec c s) := by
  cases c with
  | powerReset | pinReset => exact answerOk_next (resetNode_rangesOk _ h)
  | resetnAsserted => exact answerOk_next (Retains.rangesOk { Retains.refl s with } h)
  | entryEyeBlocked inlet => exact answerOk_running h (entryEyeBlocked_rangesOk inlet h)
  | entryEyeClear inlet => exact answerOk_retains h (setEntryEye_retains ..).settle
  | exitEyeBlocked => exact answerOk_running h (exitEyeBlocked_rangesOk h)
  | exitEyeClear => exact execExitEyeClear_answerOk h
  | rackFullPress => exact execRackFullPress_answerOk h
  | rackEmptyPress => exact execRackEmptyPress_answerOk h
  | stationOpened => exact execStationOpened_answerOk h
  | stationClosed => exact execStationClosed_answerOk h
  | tagRead value => exact execTagRead_answerOk h value
  | estopActive => exact answerOk_retains h (changeTerms_retains (pressEstop_retains s)).settle
  | estopReleased => exact execEstopReleased_answerOk h
  | setupButtonPress => exact answerOk_retains h { Retains.refl s with }
  | startHoldExpiry => exact answerOk_expiry h _ startHold_retains
  | quietTimerExpiry => exact execQuietTimerExpiry_answerOk h
  | estopReleaseExpiry =>
    exact answerOk_expiry h _ fun u => (changeTerms_retains (releaseEstop_retains u)).settle
  | stopRepeatExpiry => exact answerOk_expiry h _ sendStop_retains
  | tagReadWindowExpiry => exact answerOk_expiry h _ fun _ => .of_frame rfl rfl rfl rfl
  | arrivalWindowExpiry n => exact execArrivalWindowExpiry_answerOk h n
  | holdOffExpiry => exact answerOk_expiry h _ fun u => Retains.settle (.of_frame rfl rfl rfl rfl)
  | diverterTravelExpiry => exact execDiverterTravelExpiry_answerOk h
  | releaseLimitExpiry => exact execReleaseLimitExpiry_answerOk h
  | runOnExpiry => exact answerOk_expiry h _ fun u => (cancelRunOn_retains u).settle
  | neighbourSilenceExpiry z => exact execNeighbourSilenceExpiry_answerOk h z
  | statePeriodExpiry => exact answerOk_expiry h _ placeState_retains
  | sampleCompletion probe current => exact answerOk_expiry h _ (takeSample_retains probe current)
  | callRepeatExpiry n => exact execCallRepeatExpiry_answerOk h n
  | callExpiry st n => exact execCallExpiry_answerOk h st n
  | noticeRepeatExpiry k => exact execNoticeRepeatExpiry_answerOk h k
  | setupWindowExpiry => exact answerOk_expiry h _ fun u => { Retains.refl u with }
  | writeCycleCompletion => exact execWriteCycleCompletion_answerOk h
  | lineReleased => exact answerOk_retains h (.of_frame rfl rfl rfl rfl)
  | lineBusy => exact execLineBusy_answerOk h
  | frameSendStart => exact execFrameSendStart_answerOk h
  | arbitrationLost => exact execArbitrationLost_answerOk h
  | selfCheckError => exact execSelfCheckError_answerOk h
  | broadcastSent => exact execBroadcastSent_answerOk h
  | replySlotRead ack hold => exact execReplySlotRead_answerOk h ack hold
  | insertionError => exact execInsertionError_answerOk h
  | abortMark => exact execAbortMark_answerOk h
  | receiveError f => exact answerOk_running h (receiveLine_rangesOk f h)
  | frameIgnored | stopReceived | goReceived | passReceived | recallReceived | stateReceived | callReceived
  | answerReceived | declineReceived | noticeReceived | replyReceived | clear | askStatus | askCounts | askQueue
  | askExpected | askCalls | askNeighbour | askRunning | askRestart | setupEnable | setupWrite | setupRead
  | askTopicOutsideRange => exact answerOk_received h _

/-- A step of the time base is a due expiry or a millisecond (R8). -/
theorem idle_answerOk : AnswerOk (idle s) := by
  unfold idle; split
  · exact answerOk_next (Retains.rangesOk { Retains.refl s with } h)
  · exact exec_answerOk h _
  · exact exec_answerOk h _

end Commands

/-- Settles O57: the events that let no record in keep the ranges by `Retains`, and the ranges of a record that joins, of
a setup value that is written and of a configuration that is loaded are those its rule gives it. -/
theorem stepKeepsStoreAndQueue : Obligations.StepKeepsStoreAndQueue := by
  intro s t h hs
  unfold step at hs; split at hs
  · exact idle_answerOk h t hs
  · rename_i c rest _
    have taken : RangesOk { s with pending := rest } := Retains.rangesOk { Retains.refl s with } h
    exact exec_answerOk taken c t hs

/-! # What the events of the zone queue do

## Timers that end, reads of tags, and free places -/

/-- Settles O15: each of the timers is due, so its expiry has its effect on the state as it stands. -/
theorem plainTimersEnd : Obligations.PlainTimersEnd := by
  intro s ha
  have expired {o : Option Timer} {m : Timer} (ho : o = some m) (hm : m.due s.tb = true) (f : State → State) :
      Host.Outcome.next (whileRunning (fun s => onExpiry o f s) s) = (.next (f s) : Answer) := by
    rw [whileRunning_awake ha, onExpiry_due ho hm]
  refine ⟨?_, fun m hw hm => ?_, fun m hw hm => ?_, fun m hw hm => ?_, fun m hw hm => ?_⟩
  · simp [exec, execSetupButtonPress, ha, startTimer, setupWindowMs]
  · exact expired hw hm _
  · exact expired hw hm _
  · exact expired hw hm _
  · exact expired hw hm _

theorem tagOfWord_eq_some {v : Word16} (h1 : 1 ≤ v.toNat) (h2 : v.toNat ≤ 4095) :
    tagOfWord v = some (v.setWidth 12) := by
  simp [tagOfWord, h1, h2]

theorem tagOfWord_eq_none {v : Word16} (h : v = 0 ∨ 4095 < v.toNat) : tagOfWord v = none := by
  have outside : ¬ (1 ≤ v.toNat ∧ v.toNat ≤ 4095) := by
    rcases h with rfl | h
    · simp
    · omega
  simpa [tagOfWord] using outside

theorem tagTail_append (tag : Option (BitVec 12)) (rest : List RackRecord) (r : RackRecord) :
    tagTail tag (rest ++ [r]) = rest ++ [{ r with tag := tag }] := by
  induction rest with
  | nil => rfl
  | cons a rest ih =>
    rw [List.cons_append, tagTail, ih]
    · rfl
    · simp

theorem exec_tagRead {v : Word16} {s : State} (h : InUse s) :
    exec (.tagRead v) s = .next (if takesRead v s then applyRead v s else s) :=
  congrArg Host.Outcome.next (whileRunning_awake h.1 _)

/-- A read applied to a queue with a tail (R44). -/
theorem applyRead_tail {v : Word16} {s : State} {rest : List RackRecord} {tail : RackRecord}
    (hq : s.zq.queue = rest ++ [tail]) :
    applyRead v s =
      let named := { s with zq := { s.zq with queue := rest ++ [{ tail with tag := tagOfWord v }] } }
      if tail.tag.isNone || tail.tag == tagOfWord v then named
      else sendNotice .tagChanged 0 v (tagWord tail.tag) named := by
  simp [applyRead, hq, tagTail_append]

/-- Settles O13: a read that is taken is applied to the tail, and with no tail it has none to name. -/
theorem tagReadTagsTheTail : Obligations.TagReadTagsTheTail := by
  intro v s h
  refine ⟨fun hn => ?_, fun rest tail hr h1 h2 hw hq => ?_⟩
  · rw [exec_tagRead h]
    split
    · rename_i ht
      simp only [takesRead, Bool.and_eq_true, beq_iff_eq, Option.isSome_iff_ne_none] at ht
      obtain ⟨⟨⟨-, hreader⟩, hvalue⟩, hwindow⟩ := ht
      have empty : s.zq.queue = [] := by
        rcases hn with hn | hn | hn | hn | hn
        · exact absurd hreader hn
        · exact absurd (tagOfWord_eq_none (.inl hn)) hvalue
        · exact absurd (tagOfWord_eq_none (.inr hn)) hvalue
        · exact absurd hn hwindow
        · exact hn
      simp [applyRead, empty]
    · rfl
  · have tag := tagOfWord_eq_some h1 h2
    have takes : takesRead v s = true := by
      simp [takesRead, h.2, hr, tag, Option.isSome_iff_ne_none, hw]
    rw [exec_tagRead h, if_pos takes, applyRead_tail hq, tag]
    refine ⟨fun hs => ?_, fun old ho hne => ?_⟩
    · rcases hs with hs | hs <;> simp [hs]
    · simp [ho, hne, tagWord]

/-- A zone that can be offered to is in the neighbour table with a STATE that shows a free place (R48). -/
theorem zoneReady_free {s : State} {z : Addr} (h : zoneReady s z = true) :
    ∃ n b, neighbour? s z = some n ∧ n.last = some b ∧ 1 ≤ b.free.toNat := by
  obtain ⟨b, hb, hr⟩ : ∃ b, presentState? s z = some b ∧ bodyReady b = true := by
    cases hp : presentState? s z <;> simp_all [zoneReady]
  obtain ⟨n, hn, hl⟩ := Option.bind_eq_some_iff.1 hb
  have free : b.free ≠ 0 := by simp_all [bodyReady]
  refine ⟨n, b, hn, ?_, Nat.one_le_iff_ne_zero.2 fun h0 => free (BitVec.eq_of_toNat_eq h0)⟩
  split at hl
  · exact hl
  · cases hl

/-- Settles O49: an offer is made only when its condition holds, which names a zone that is ready. -/
theorem freePlacesOfAZone : Obligations.FreePlacesOfAZone := by
  intro s
  refine ⟨fun h => ?_, fun h => ?_, rfl, fun h => ?_⟩
  · unfold freePlaces; omega
  · unfold freePlaces; omega
  · have ready : offerReady s = true := by
      by_contra hr
      exact h (testOffer_idle (by simpa using hr))
    simp only [offerReady, Bool.and_eq_true] at ready
    obtain ⟨-, hz⟩ := ready
    obtain ⟨z, hb, hz⟩ : ∃ z, (headOutlet s).bind (outletZone s.ss.running) = some z ∧ zoneReady s z = true := by
      cases hp : (headOutlet s).bind (outletZone s.ss.running) <;> simp_all
    obtain ⟨o, ho, hoz⟩ := Option.bind_eq_some_iff.1 hb
    obtain ⟨n, b, hn, hl, hf⟩ := zoneReady_free hz
    exact ⟨o, z, n, b, ho, hoz, hn, hl, hf⟩

/-! ## A PASS held or taken -/

/-- A frame addressed to a node that hears it reaches its owner (R148). -/
theorem received_own {f : Frame} {s : State} (h : Hearing s) (ho : FromOther f.source s)
    (hz : ownZone s = some f.target) (hk : f.kind ≠ .reserved) (hl : lengthAllowed f.kind f.body.length = true)
    (ht : targetAllowed f.kind f.target = true) :
    whileRunning (receiveFrame f) s = deliver f (frameHeard s) := by
  have ⟨⟨ha, _⟩, _⟩ := h
  rw [whileRunning_awake ha, receiveFrame_hearing h ho hk hl, takeGood_own (by simpa using hz) ht]

theorem upstreamOf_eq_none {source : Addr} {s : State} :
    upstreamOf s source = none
      ↔ ¬ (inletZone s.ss.running .one = some source ∨ inletZone s.ss.running .two = some source) := by
  unfold upstreamOf; split
  · simp_all
  split <;> simp_all

/-- A PASS is held from a source that is no upstream zone, and by a node that is not SERVING, is halted or has no free
place, in every role (R71). -/
theorem passDecision_hold {source : Addr} {s : State}
    (h : upstreamOf s source = none ∨ s.sn.service ≠ .serving ∨ halted s = true
      ∨ capacity s ≤ s.zq.queue.length + s.zq.expected.length) : passDecision source s = none := by
  unfold passDecision; split
  · rfl
  · rename_i u hu
    split
    · rfl
    split
    · rfl
    · rw [if_pos]
      simp_all

/-- Outside a MERGE every other PASS is acknowledged (R71). -/
theorem passDecision_ack {source : Addr} {s : State} {u : Inlet} (hu : upstreamOf s source = some u)
    (hs : s.sn.service = .serving) (hh : halted s = false)
    (hc : ¬ capacity s ≤ s.zq.queue.length + s.zq.expected.length) (hm : role s ≠ .merge) :
    passDecision source s = some u := by
  simp [passDecision, hu, hs, hh, hc, hm]

/-- Outside a MERGE and a LOAD neither the arbiter nor the call list takes part in a join (R73). -/
theorem joinExpected_plain {source : Addr} {body : List Byte} {u : Inlet} {s : State} (hm : role s ≠ .merge)
    (hl : role s ≠ .load) :
    joinExpected source body u s =
      { s with zq := { s.zq with expected := s.zq.expected ++ [passEntry source body s] },
               dc := { s.dc with runOn := none }, sn := { s.sn with quiet := none } } := by
  have same : role (cancelQuiet (cancelRunOn { s with
      zq := { s.zq with expected := s.zq.expected ++ [passEntry source body s] } })) = role s := rfl
  simp only [joinExpected, if_neg hm]
  rw [if_neg (same ▸ hl)]
  rfl

/-- Settles O33: the frame reaches ZQ, which decides it by the first case of R71 that applies. -/
theorem passIsHeldOrTaken : Obligations.PassIsHeldOrTaken := by
  intro source target body s h ho hz h1 h60 hlen upstream full entry
  have taken : exec (.passReceived source target body) s = .next (takePass source body (frameHeard s)) := by
    refine congrArg Host.Outcome.next (received_own h ho hz (by simp) ?_ ?_)
    · simpa [lengthAllowed, passLengthOk, or_assoc] using hlen
    · simp [targetAllowed, isZone, h1, h60]
  rw [taken]
  refine ⟨fun hn => ?_, fun hu hs hh hf hm hl => ?_⟩
  · have hold : passDecision source (frameHeard s) = none :=
      passDecision_hold (hn.imp_left upstreamOf_eq_none.2)
    rw [takePass, hold]
  · obtain ⟨u, hu⟩ := Option.ne_none_iff_exists'.1 (mt upstreamOf_eq_none.1 (not_not.2 hu))
    have ack : passDecision source (frameHeard s) = some u := passDecision_ack hu hs hh hf hm
    rw [takePass, ack]
    simp only [joinExpected_plain (s := frameHeard s) hm hl]
    rfl

/-! ## A rack seen at an inlet -/

@[simp] theorem setEntryEye_frame (inlet : Inlet) (b : Bool) (s : State) :
    (setEntryEye inlet b s).tb = s.tb ∧ (setEntryEye inlet b s).dc = s.dc ∧ (setEntryEye inlet b s).sn = s.sn
    ∧ (setEntryEye inlet b s).ss = s.ss ∧ (setEntryEye inlet b s).zq.queue = s.zq.queue
    ∧ (setEntryEye inlet b s).zq.expected = s.zq.expected := by
  cases inlet <;> exact ⟨rfl, rfl, rfl, rfl, rfl, rfl⟩

/-- An entry eye that the role uses hands a rack to ZQ, and the tests of an event follow (R2, R32). -/
theorem exec_entryEyeBlocked {inlet : Inlet} {s : State} (h : InUse s) (hi : inlet = .one ∨ role s = .merge) :
    exec (.entryEyeBlocked inlet) s = .next (settle (rackAtInlet inlet (setEntryEye inlet true s))) := by
  have takes : takesEntryEye inlet (setEntryEye inlet true s) = true := by
    have hc : configured s = true := h.2
    simp only [configured, role] at hc hi
    simpa [takesEntryEye, configured, role, hc] using hi
  refine congrArg Host.Outcome.next ?_
  rw [whileRunning_awake h.1]
  exact if_pos takes

/-- With a place in the queue, the rack of a matching entry arrives (R31). -/
theorem rackAtInlet_arrival {inlet : Inlet} {s : State} {n : Nat} {e : ExpectedEntry} (hl : s.zq.queue.length < 8)
    (hm : matchingEntry inlet s = some n) (he : s.zq.expected[n]? = some e) :
    rackAtInlet inlet s
      = joinQueue e.record { s with zq := { s.zq with expected := s.zq.expected.eraseIdx n } } := by
  simp [rackAtInlet, Nat.not_le.2 hl, hm, arrive, he]

/-- With a place in the queue, a rack that matches no entry is a stray (R34). -/
theorem rackAtInlet_stray {inlet : Inlet} {s : State} (hl : s.zq.queue.length < 8)
    (hm : matchingEntry inlet s = none) :
    rackAtInlet inlet s = makeStray (inletDetail inlet s) (inletValue inlet) s := by
  simp [rackAtInlet, Nat.not_le.2 hl, hm]

/-- What a join changes: the queue, the tag-read window, run-on and the quiet timer (R12, R25, R43, R60). -/
theorem joinQueue_eq (r : RackRecord) (s : State) :
    joinQueue r s =
      { s with zq := { s.zq with queue := s.zq.queue ++ [joining s r],
                                 tagWindow := some { start := s.tb, duration := 1000 } },
               dc := { s.dc with runOn := none }, sn := { s.sn with quiet := none } } := rfl

theorem joining_eq (r : RackRecord) {s t : State} (h : t.ss = s.ss) :
    joining t r = if role s = .wash ∧ itemNat s.ss.running .requiredCredit ≠ 0 then
      { r with results := r.results.filter (fun e => e.stage != itemNat s.ss.running .stage)
                ++ [{ stage := itemNat s.ss.running .stage, credit := 0, verdict := .pending, faultSeen := false }] }
      else r := by
  unfold joining role
  rw [h]
  exact if_congr (by simp) rfl rfl

theorem strayRecord_eq {s t : State} (h : t.ss = s.ss) :
    strayRecord t =
      { tag := none, content := if role s = .load ∨ runningSide s.ss.running = .return then .empty else .unknown,
        origin := none, washes := 0, bound := none, results := [] } := by
  have content : strayContent t
      = if role s = .load ∨ runningSide s.ss.running = .return then .empty else .unknown := by
    unfold strayContent role
    rw [h]
    exact if_congr (by simp) rfl rfl
  rw [strayRecord, content]

/-- Settles O7: the entry that matches is the oldest of the inlet's upstream zone, so the rack is its arrival or, with no
such entry, a stray. -/
theorem entryEyeBlockedTakesTheRack : Obligations.EntryEyeBlockedTakesTheRack := by
  intro inlet s h hi hl eyes stage joined window
  obtain ⟨htb, hdc, hsn, hss, hq, hx⟩ : eyes.tb = s.tb ∧ eyes.dc = s.dc ∧ eyes.sn = s.sn ∧ eyes.ss = s.ss
      ∧ eyes.zq.queue = s.zq.queue ∧ eyes.zq.expected = s.zq.expected := setEntryEye_frame inlet true s
  have seen : exec (.entryEyeBlocked inlet) s = .next (settle (rackAtInlet inlet eyes)) := exec_entryEyeBlocked h hi
  clear_value eyes
  have joins (r : RackRecord) {t : State} (ht : t.ss = s.ss) : joining t r = joined r := joining_eq r ht
  have room : eyes.zq.queue.length < 8 := by rw [hq]; exact hl
  rw [seen]
  refine ⟨fun z before e after hz hex he hb => ?_, fun hn => ?_⟩
  · have found : matchingEntry inlet eyes = some before.length := by
      rw [matchingEntry, hss, hz, hx, hex]
      exact Laws.findIdx?_middle after (by simpa using hb) (by simpa using he)
    have entry : eyes.zq.expected[before.length]? = some e := by rw [hx, hex]; exact Laws.getElem?_middle ..
    rw [rackAtInlet_arrival room found entry]
    simp only [joinQueue_eq, joins, htb, hdc, hsn, hss, hq, hx, hex, Laws.eraseIdx_middle, window]
  · have unmatched : matchingEntry inlet eyes = none := by
      rw [matchingEntry, hss, hx]
      cases hz : inletZone s.ss.running inlet with
      | none => rfl
      | some z => exact Laws.findIdx?_absent (by simpa using hn z hz)
    have value : inletValue inlet = if inlet = .one then 1 else 2 := by cases inlet <;> rfl
    rw [rackAtInlet_stray room unmatched, makeStray, strayRecord_eq hss, value]
    simp only [joinQueue_eq, joins, htb, hdc, hsn, hss, hq, window, count, inletDetail]
    rfl

/-! ## An exit eye that clears -/

/-- With the exit eye clear there is no head at the exit, and the tests leave the queue, the exit, the judgement and the
counts as they stand (R48, R109). -/
theorem settle_eyeX_clear {s : State} (h : s.zq.eyeX = false) :
    (settle s).zq = s.zq ∧ (settle s).ex = s.ex ∧ (settle s).sl = s.sl ∧ (settle s).sn.counts = s.sn.counts := by
  have judged : formJudgement s = s := by
    unfold formJudgement; split <;> simp [h]
  have idle : offerReady (testNeed (testQuiet s)) = false := by simp [offerReady, headAtExit, h]
  unfold settle; split
  · simp [judged, testOffer_idle idle]
  · simp

/-- Run-on starts when the queue and the expected list are empty together, in service and not halted (R60). -/
theorem startRunOnIfEmpty_runOn (s : State) :
    (startRunOnIfEmpty s).dc.runOn = if s.zq.queue = [] ∧ s.zq.expected = [] ∧ inService s = true ∧ halted s = false
        ∧ itemNat s.ss.running .runOn ≠ 0 then
      some { start := s.tb, duration := 1000 * itemNat s.ss.running .runOn } else s.dc.runOn := by
  have cond : (s.zq.queue.isEmpty && s.zq.expected.isEmpty && inService s && !halted s
      && itemNat s.ss.running .runOn != 0) = true ↔ s.zq.queue = [] ∧ s.zq.expected = [] ∧ inService s = true
        ∧ halted s = false ∧ itemNat s.ss.running .runOn ≠ 0 := by simp [and_assoc]
  unfold startRunOnIfEmpty
  split
  · rename_i h; rw [if_pos (cond.1 h)]; rfl
  · rename_i h; rw [if_neg (mt cond.2 h)]

/-- What the leave of the head changes: the queue, the judgement, and with the queue empty the tag-read window and
run-on (R26, R60, R109). -/
theorem leaveHead_blocks {s : State} {head : RackRecord} {rest : List RackRecord} (hq : s.zq.queue = head :: rest) :
    (leaveHead s).zq = { s.zq with queue := rest, tagWindow := if rest = [] then none else s.zq.tagWindow }
      ∧ (leaveHead s).sl.judgement = none
      ∧ (leaveHead s).dc.runOn = if rest = [] ∧ s.zq.expected = [] ∧ inService s = true ∧ halted s = false
          ∧ itemNat s.ss.running .runOn ≠ 0 then
        some { start := s.tb, duration := 1000 * itemNat s.ss.running .runOn } else s.dc.runOn := by
  simp only [leaveHead, hq, List.tail_cons]
  cases rest with
  | nil =>
    refine ⟨by simp, by simp, ?_⟩
    simp only [List.isEmpty_nil, if_true, startRunOnIfEmpty_runOn]
    rfl
  | cons r rest => exact ⟨by simp, rfl, by simp⟩

/-- A release that ends takes the head, counts it, and closes the exit (R55). -/
theorem endRelease_blocks (s : State) :
    (endRelease s).zq = (leaveHead s).zq ∧ (endRelease s).sl = (leaveHead s).sl
      ∧ (endRelease s).dc = (leaveHead s).dc
      ∧ (endRelease s).ex = { s.ex with exit := .closed, outlet := none, serial := none, travel := none,
                                        release := none, gate := false }
      ∧ (endRelease s).sn.counts = { s.sn.counts with released := s.sn.counts.released + 1 } := by
  simp [endRelease, closeExit, endOffer]

theorem unbindOffer_gone (s : State) : (unbindOffer true s).zq = s.zq := by
  unfold unbindOffer; split <;> rfl

/-- A removal takes the head and counts it; it marks an offer in OFFERING as withdrawn and undoes one in SWITCHING
(R38, R53, R54). -/
theorem removeHead_blocks {s : State} (hq : s.zq.queue ≠ []) :
    (removeHead s).zq = (leaveHead s).zq ∧ (removeHead s).sl = (leaveHead s).sl
      ∧ (removeHead s).dc = (leaveHead s).dc
      ∧ (removeHead s).ex = (match s.ex.exit with
          | .offering => { s.ex with withdrawn := true }
          | .switching => { s.ex with exit := .closed, outlet := none, serial := none, travel := none,
                                      release := none, gate := false }
          | .closed | .releasing => s.ex)
      ∧ (removeHead s).sn.counts = { s.sn.counts with removed := s.sn.counts.removed + 1 } := by
  unfold removeHead; split
  · contradiction
  · cases hx : s.ex.exit <;> simp [hx, unbindOffer_gone]

/-- A rack gone from the exit leaves the queue, by the end of its release or by hand (R39). -/
theorem rackGoneFromExit_blocks {s : State} (hq : s.zq.queue ≠ []) :
    (rackGoneFromExit s).zq = (leaveHead s).zq ∧ (rackGoneFromExit s).sl = (leaveHead s).sl
      ∧ (rackGoneFromExit s).dc = (leaveHead s).dc ∧ (rackGoneFromExit s).tb = s.tb ∧ (rackGoneFromExit s).su = s.su
      ∧ (rackGoneFromExit s).ma = s.ma ∧ (rackGoneFromExit s).ss = s.ss ∧ (rackGoneFromExit s).pending = s.pending
      ∧ (rackGoneFromExit s).nt = s.nt := by
  obtain ⟨hz, hl, hd, -, -⟩ := endRelease_blocks s
  obtain ⟨hz', hl', hd', -, -⟩ := removeHead_blocks hq
  unfold rackGoneFromExit; split
  · simp_all
  split
  · exact ⟨hz, hl, hd, by simp⟩
  · exact ⟨hz', hl', hd', by simp⟩

theorem rackGoneFromExit_releasing {s : State} (hq : s.zq.queue ≠ []) (hx : s.ex.exit = .releasing) :
    rackGoneFromExit s = endRelease s := by
  simp [rackGoneFromExit, hq, hx]

theorem rackGoneFromExit_byHand {s : State} (hq : s.zq.queue ≠ []) (hx : s.ex.exit ≠ .releasing) :
    rackGoneFromExit s = removeHead s := by
  simp [rackGoneFromExit, hq, hx]

/-- Settles O10: the rack that is gone from the exit leaves by the end of its release or by hand, and with the exit eye
clear the tests that follow find no head at the exit. -/
theorem exitEyeClearTakesTheHead : Obligations.ExitEyeClearTakesTheHead := by
  intro s ha
  have answer : exec .exitEyeClear s = .next (settle
      (if configured s then rackGoneFromExit (setExitEye false s) else setExitEye false s)) :=
    congrArg Host.Outcome.next (whileRunning_awake ha _)
  refine ⟨fun h => ?_, fun head rest hc hq => ?_⟩
  · have stays : (if configured s then rackGoneFromExit (setExitEye false s) else setExitEye false s)
        = setExitEye false s := by
      rcases h with h | h
      · simp [h]
      · simp [rackGoneFromExit, setExitEye, h]
    rw [answer, stays]; rfl
  · rw [if_pos hc] at answer
    have seen : (setExitEye false s).zq.queue = head :: rest := hq
    have waits : (setExitEye false s).zq.queue ≠ [] := by simp [seen]
    obtain ⟨hz, hj, hr⟩ := leaveHead_blocks seen
    obtain ⟨hz', hl', hd', htb, hsu, hma, hss, hp, hnt⟩ := rackGoneFromExit_blocks waits
    have zq := hz'.trans hz
    obtain ⟨tz, tx, tl, tc⟩ := settle_eyeX_clear (s := rackGoneFromExit (setExitEye false s)) (by rw [zq]; rfl)
    have exit : (setExitEye false s).ex.exit = s.ex.exit := rfl
    obtain ⟨ftb, -, fsu, fma, fss, fp⟩ := settle_frame (rackGoneFromExit (setExitEye false s))
    have neighbours : (settle (rackGoneFromExit (setExitEye false s))).nt.entries = s.nt.entries := by
      simp only [settle_rest, hnt]; rfl
    refine ⟨_, answer, by rw [tz, zq], by rw [tz, zq]; rfl, by rw [tz, zq]; rfl, by rw [tl, hl', hj],
      by rw [tz, zq]; rfl, ftb.trans htb, fsu.trans hsu, fma.trans hma, fss.trans hss, fp.trans hp, neighbours, ?_,
      fun hx => ?_, fun hx => ?_, fun hx => ?_, fun hx => ?_, fun hx => ?_⟩
    · simp only [settle_rest, hd', hr]; rfl
    · obtain ⟨-, -, -, hex, hct⟩ := endRelease_blocks (setExitEye false s)
      rw [tx, tc, rackGoneFromExit_releasing waits hx]
      exact ⟨hex, hct⟩
    · obtain ⟨-, -, -, -, hct⟩ := removeHead_blocks waits
      rw [tc, rackGoneFromExit_byHand waits hx, hct]; rfl
    all_goals
      obtain ⟨-, -, -, hex, -⟩ := removeHead_blocks waits
      rw [tx, rackGoneFromExit_byHand waits (by rw [exit, hx]; decide), hex, exit, hx]
      rfl

/-! ## Entries that leave the expected list without their rack -/

theorem applyJudgement_lost (s : State) : (applyJudgement s).sn.counts.lost = s.sn.counts.lost := by
  unfold applyJudgement; split
  · rename_i j _ _
    simp only []; split
    · rfl
    split <;> cases j.outlet <;> simp [countJudged]
  · rfl

theorem prepareHead_lost (s : State) : (prepareHead s).sn.counts.lost = s.sn.counts.lost := by
  unfold prepareHead; split <;> simp [applyJudgement_lost, bindHead]

theorem testOffer_lost (s : State) : (testOffer s).sn.counts.lost = s.sn.counts.lost := by
  unfold testOffer; split
  · split
    · rfl
    · simp only [makeOffer]; split <;> simp [refuseOffer, takeSerial, prepareHead_lost]
  · rfl

/-- Of the counts the tests of an event change those of the sort alone (R112). -/
theorem settle_lost (s : State) : (settle s).sn.counts.lost = s.sn.counts.lost := by
  unfold settle; split
  · simp [testOffer_lost]
  · rfl

/-- A NOTICE joins a transmit list that has a place for it (R145). -/
theorem sendNotice_joins (k : NoticeKind) (d : Byte) (t v : Word16) {s : State} (hc : configured s = true)
    (h8 : s.li.tx.length < 8) (h3 : s.li.tx.countP (hasKind .notice) < 3) :
    freshEntry (ownFrame s .notice 0 (noticeBody k d t v)) ∈ (sendNotice k d t v s).li.tx := by
  have joined := placeFrame_joins (ownFrame s .notice 0 (noticeBody k d t v)) (by simp [ownFrame]) h8 fun _ => h3
  simp only [sendNotice, sendFrame, hc, Bool.true_or, if_true, joined]
  exact List.mem_append_right _ (List.mem_singleton_self _)

/-- What the leave of an expected entry changes: the expected list and, with both collections empty, run-on (R60). -/
theorem dropExpected_blocks {s : State} {before after : List ExpectedEntry} {e : ExpectedEntry}
    (hx : s.zq.expected = before ++ e :: after) :
    (dropExpected before.length s).zq = { s.zq with expected := before ++ after }
      ∧ (dropExpected before.length s).dc.runOn =
        if s.zq.queue = [] ∧ before ++ after = [] ∧ inService s = true ∧ halted s = false
            ∧ itemNat s.ss.running .runOn ≠ 0 then
          some { start := s.tb, duration := 1000 * itemNat s.ss.running .runOn } else s.dc.runOn := by
  have left : s.zq.expected.eraseIdx before.length = before ++ after := by rw [hx]; exact Laws.eraseIdx_middle ..
  refine ⟨by simp [dropExpected, left], ?_⟩
  rw [dropExpected, startRunOnIfEmpty_runOn, left]
  rfl

/-- An entry lost is dropped, counted and noticed (R40, R76). -/
theorem loseExpected_eq {s : State} {n : Nat} {e : ExpectedEntry} (he : s.zq.expected[n]? = some e) :
    loseExpected n s = sendNotice .lost (addrOctet e.upstream) (tagWord e.record.tag) (e.serial.setWidth 16)
      (count (fun c => { c with lost := c.lost + 1 }) (dropExpected n s)) := by
  simp [loseExpected, he]

theorem wordOctets_serial (n : Byte) : wordOctets (n.setWidth 16) = [0, n] := by
  have high : highOctet (n.setWidth 16) = 0 := by
    apply BitVec.eq_of_toNat_eq
    simp only [highOctet, BitVec.extractLsb'_toNat, BitVec.toNat_setWidth, Nat.shiftRight_eq_div_pow]
    have := n.isLt
    simp; omega
  have low : lowOctet (n.setWidth 16) = n := by
    apply BitVec.eq_of_toNat_eq
    simp only [lowOctet, BitVec.extractLsb'_toNat, BitVec.toNat_setWidth, Nat.shiftRight_zero]
    have := n.isLt
    omega
  rw [wordOctets, high, low]

/-- The NOTICE of a lost entry names its upstream zone, its tag and its serial (R76, R153). -/
theorem loseExpected_noticed {s : State} {n : Nat} {e : ExpectedEntry} (he : s.zq.expected[n]? = some e)
    (hc : configured s = true) (h8 : s.li.tx.length < 8) (h3 : s.li.tx.countP (hasKind .notice) < 3) :
    ∃ x ∈ (loseExpected n s).li.tx, x.frame.kind = .notice
      ∧ x.frame.body = [8, e.upstream.setWidth 8] ++ wordOctets ((e.record.tag.getD 0).setWidth 16)
          ++ [0, e.serial] := by
  rw [loseExpected_eq he]
  have list : (count (fun c => { c with lost := c.lost + 1 }) (dropExpected n s)).li = s.li := by simp
  have service : configured (count (fun c => { c with lost := c.lost + 1 }) (dropExpected n s)) = true := by
    rw [configured_of_sn (s := s) (by simp), hc]
  refine ⟨_, sendNotice_joins _ _ _ _ service (by rw [list]; exact h8) (by rw [list]; exact h3), rfl, ?_⟩
  simp only [freshEntry, ownFrame, noticeBody, wordOctets_serial]
  rfl

/-- Settles O17: both ways an entry is dropped at its place, at its expiry with a count and a NOTICE and at a RECALL
without. -/
theorem entriesLeaveWithoutTheirRack : Obligations.EntriesLeaveWithoutTheirRack := by
  unfold Obligations.EntriesLeaveWithoutTheirRack
  intro runOnAfter
  refine ⟨fun s before e after m ha hx hw hm => ?_, fun source target serial s h ho hz h1 h60 => ?_⟩
  · have entry : s.zq.expected[before.length]? = some e := by rw [hx]; exact Laws.getElem?_middle ..
    have answer : exec (.arrivalWindowExpiry before.length) s = .next (settle (loseExpected before.length s)) := by
      refine congrArg Host.Outcome.next ?_
      rw [whileRunning_awake ha]
      simp only [entry, onExpiry_due hw hm]
    obtain ⟨dz, dr⟩ := dropExpected_blocks hx
    refine ⟨_, answer, ?_, ?_, ?_, ?_, ?_, fun hc h8 h3 => ?_⟩
    · simp [loseExpected_eq entry, dz]
    · simp [settle_lost, loseExpected_eq entry]
    · simp [loseExpected_eq entry, dz]
    · simp [loseExpected_eq entry]
    · simp only [settle_rest, loseExpected_eq entry, sendNotice_frame, count_frame, dr, runOnAfter]
    · obtain ⟨x, hm, hk, hb⟩ := loseExpected_noticed entry hc h8 h3
      exact ⟨x, (settle_placings _).keeps hm (by simp [hasKind, hk]), hk, hb⟩
  · have taken : exec (.recallReceived source target serial) s = .next (takeRecall source serial (frameHeard s)) := by
      refine congrArg Host.Outcome.next (received_own h ho hz (by simp) rfl ?_)
      simp [targetAllowed, isZone, h1, h60]
    rw [taken]
    refine ⟨fun before e after hx hu hs hb => ?_, fun hn => ?_⟩
    · have found : (frameHeard s).zq.expected.findIdx? (fun e => e.upstream == source && e.serial == serial)
          = some before.length := by
        have kept : (frameHeard s).zq.expected = before ++ e :: after := hx
        rw [kept]
        exact Laws.findIdx?_middle after (by simpa using hb) (by simp [hu, hs])
      obtain ⟨dz, dr⟩ := dropExpected_blocks (s := frameHeard s) hx
      rw [takeRecall, found]
      refine ⟨_, rfl, ?_, ?_, ?_, ?_, ?_, ?_⟩
      · simp [dz]
      · simp
      · simp [dz]
      · simp only [driveSlot_frame, settle_rest, dr, runOnAfter]; rfl
      · simp [settle_lost]
      · simp
    · have absent : (frameHeard s).zq.expected.findIdx? (fun e => e.upstream == source && e.serial == serial)
          = none :=
        Laws.findIdx?_absent (by simpa using hn)
      rw [takeRecall, absent]
      rfl

end Sys2Proof.RackProofs
end

section
/-! The exit gate, the diverter and the drive (chapter 3): the proofs. -/

namespace Sys2Proof.ExitProofs
open Sys2Proof.Machine

/-! # The offer of the head

## The offer condition (R48) -/

theorem zoneReady_iff (s : State) (z : Addr) :
    zoneReady s z = true ↔ ∃ n b, neighbour? s z = some n ∧ n.presence = .present ∧ n.last = some b ∧ b.service = 2
      ∧ b.flags.getLsbD 0 = false ∧ b.free ≠ 0 := by
  have body (b : StateBody) : bodyReady b = true ↔ b.service = 2 ∧ b.flags.getLsbD 0 = false ∧ b.free ≠ 0 := by
    have serving : b.service.toNat = 2 ↔ b.service = 2 := BitVec.toNat_inj (y := 2)
    simp [bodyReady, serviceCode, serving, and_assoc]
  simp only [← body]
  unfold zoneReady presentState?
  cases hn : neighbour? s z with
  | none => simp
  | some n =>
    by_cases hp : n.presence = .present
    · cases hl : n.last <;> simp [hp, hl]
    · simp [hp]

theorem offerReady_iff {s : State} {head : RackRecord} {rest : List RackRecord} {o : Outlet} {z : Addr}
    (hq : s.zq.queue = head :: rest) (ho : headOutlet s = some o) (hz : outletZone s.ss.running o = some z) :
    offerReady s = true ↔ s.zq.eyeX = true ∧ inService s = true ∧ halted s = false ∧ s.ex.exit = .closed
      ∧ s.ex.holdOff = none ∧ zoneReady s z = true := by
  simp [offerReady, headAtExit, hq, ho, hz, and_assoc]

theorem testOffer_ready {s : State} {o : Outlet} {z : Addr} (h : offerReady s = true) (ho : headOutlet s = some o)
    (hz : outletZone s.ss.running o = some z) : testOffer s = makeOffer o z s := by
  simp [testOffer, h, ho, hz]

/-! ## The preparation of the head (R106, R112, R136) -/

/-- A judgement that is applied has nothing left to change (R112). -/
theorem applyJudgement_applied {s : State} {j : Judgement} (hj : s.sl.judgement = some j) (ha : j.applied = true) :
    applyJudgement s = s := by
  unfold applyJudgement; split
  · simp_all
  · rfl

/-- A judgement not applied yet changes the head by its outlet, is counted and is marked as applied (R112). -/
theorem applyJudgement_fresh {s : State} {head : RackRecord} {rest : List RackRecord} {j : Judgement}
    (hq : s.zq.queue = head :: rest) (hj : s.sl.judgement = some j) (ha : j.applied = false) :
    (applyJudgement s).zq = { s.zq with queue := judgedRecord j.outlet head :: rest }
      ∧ (applyJudgement s).sl.judgement = some { j with applied := true }
      ∧ (applyJudgement s).sn.counts = countJudged j.outlet s.sn.counts := by
  simp only [applyJudgement, hq, hj, ha, Bool.false_eq_true, if_false]
  split <;> simp [changeHead, hq]

/-- The head as its offer prepares it. -/
def preparedHead (s : State) (head : RackRecord) : RackRecord :=
  match role s with
  | .wash => freezeRecord (itemNat s.ss.running .requiredCredit) head
  | .sort => match s.sl.judgement with
    | some j => if j.applied then head else judgedRecord j.outlet head
    | none => head
  | .spur => { head with bound := (spurChoice s head).2 }
  | .feed | .merge | .load | .unload => head

theorem prepareHead_zq {s : State} {head : RackRecord} {rest : List RackRecord} (hq : s.zq.queue = head :: rest) :
    (prepareHead s).zq = { s.zq with queue := preparedHead s head :: rest } := by
  have same : s.zq = { s.zq with queue := head :: rest } := by rw [← hq]
  unfold prepareHead preparedHead
  cases role s with
  | wash => simp [changeHead, hq]
  | spur => simp [bindHead, changeHead, hq]
  | sort =>
    cases hj : s.sl.judgement with
    | none => simpa [applyJudgement, hj] using same
    | some j =>
      cases ha : j.applied with
      | true => simpa [applyJudgement_applied hj ha, ha] using same
      | false => simp [applyJudgement_fresh hq hj ha, ha]
  | feed | merge | load | unload => exact same

/-- The judgement stands applied after the offer, and was counted once (R112). -/
theorem prepareHead_judged {s : State} {head : RackRecord} {rest : List RackRecord} {j : Judgement}
    (hr : role s = .sort) (hq : s.zq.queue = head :: rest) (hj : s.sl.judgement = some j) :
    (prepareHead s).sl.judgement = some { j with applied := true }
      ∧ (prepareHead s).sn.counts = if j.applied then s.sn.counts else countJudged j.outlet s.sn.counts := by
  simp only [prepareHead, hr]
  cases ha : j.applied with
  | true => simp [applyJudgement_applied hj ha, hj, ← ha]
  | false =>
    obtain ⟨-, judged, counted⟩ := applyJudgement_fresh hq hj ha
    exact ⟨judged, counted⟩

theorem prepareHead_bound {s : State} {head : RackRecord} {rest : List RackRecord} (hr : role s = .spur)
    (hq : s.zq.queue = head :: rest) : (prepareHead s).cl = { s.cl with offerCall := (spurChoice s head).2 } := by
  simp [prepareHead, hr, hq]

/-! ## The place of the PASS in the transmit list (R145) -/

/-- A frame that is no STATE makes the list longer by one at most. -/
theorem placeFrame_length {f : Frame} (hk : f.kind ≠ .state) (li : LineInterface) :
    li.tx.length ≤ (placeFrame f li).1.tx.length ∧ (placeFrame f li).1.tx.length ≤ li.tx.length + 1 := by
  rw [placeFrame, if_neg (by simp [hk]), if_neg (by simp [hk])]
  split
  · simp
  split <;> simp

theorem sendNotice_length (k : NoticeKind) (d : Byte) (t v : Word16) (s : State) :
    s.li.tx.length ≤ (sendNotice k d t v s).li.tx.length
      ∧ (sendNotice k d t v s).li.tx.length ≤ s.li.tx.length + 1 := by
  rw [sendNotice, sendFrame]; split
  · exact placeFrame_length (by simp [ownFrame]) s.li
  · simp

/-- The judgement applied places the NOTICE of a rejection at most (R112). -/
theorem applyJudgement_length (s : State) :
    s.li.tx.length ≤ (applyJudgement s).li.tx.length
      ∧ (applyJudgement s).li.tx.length ≤ s.li.tx.length + 1 := by
  unfold applyJudgement; split
  · simp only []; split
    · simp
    split
    · simpa using sendNotice_length _ _ _ _ (count _ (changeHead _ { s with sl := _ }))
    · simp
  · simp

theorem prepareHead_length (s : State) :
    s.li.tx.length ≤ (prepareHead s).li.tx.length ∧ (prepareHead s).li.tx.length ≤ s.li.tx.length + 1 := by
  unfold prepareHead
  cases role s with
  | sort => exact applyJudgement_length s
  | wash | spur | feed | merge | load | unload => simp

theorem canPlace_pass {f : Frame} {s : State} (hk : f.kind = .pass) (hc : configured s = true) :
    canPlace f s = true ↔ s.li.tx.length < 8 := by
  rw [← not_le]
  by_cases h8 : 8 ≤ s.li.tx.length <;> simp [canPlace, placeFrame, hk, hc, h8]

/-! ## The offer made (R49) -/

/-- The node with its head prepared and the serial of the offer taken. -/
def readied (o : Outlet) (s : State) : State := takeSerial o (prepareHead s)

theorem canPlace_offer {s : State} (hc : configured s = true) (o : Outlet) (z : Addr) :
    canPlace (offerFrame z (readied o s)) (readied o s) = true ↔ (prepareHead s).li.tx.length < 8 := by
  have service : configured (readied o s) = true := by
    rw [configured_of_sn (s := s) (by simp [readied]), hc]
  simpa [readied] using canPlace_pass (f := offerFrame z (readied o s)) rfl service

theorem makeOffer_placed {s : State} (hc : configured s = true) (h8 : (prepareHead s).li.tx.length < 8) (o : Outlet)
    (z : Addr) : makeOffer o z s = sendFrame (offerFrame z (readied o s)) (readied o s) :=
  if_pos ((canPlace_offer hc o z).2 h8)

theorem makeOffer_full {s : State} (hc : configured s = true) (h8 : 8 ≤ (prepareHead s).li.tx.length) (o : Outlet)
    (z : Addr) : makeOffer o z s = refuseOffer none (sendFrame (offerFrame z (readied o s)) (readied o s)) :=
  if_neg (mt (canPlace_offer hc o z).1 (not_lt.2 h8))

/-- Whether or not the PASS finds a place, the judgement and the counts are those of the prepared head. -/
theorem makeOffer_prepared (o : Outlet) (z : Addr) (s : State) :
    (makeOffer o z s).sl = (prepareHead s).sl ∧ (makeOffer o z s).sn = (prepareHead s).sn := by
  simp only [makeOffer]; split <;> simp

theorem makeOffer_lastSerial (o : Outlet) (z : Addr) (s : State) :
    (makeOffer o z s).ex.lastSerial = s.ex.lastSerial + 1 := by
  rcases makeOffer_ex o z s with h | h <;> rw [h]

/-- The PASS of the offer carries the record as it was prepared, under the serial of the offer (R68). -/
theorem offerFrame_prepared {s : State} {head : RackRecord} {rest : List RackRecord} (hq : s.zq.queue = head :: rest)
    (o : Outlet) (z : Addr) :
    offerFrame z (readied o s) = ownFrame s .pass z (passBody (s.ex.lastSerial + 1) (preparedHead s head)) := by
  have queue : (readied o s).zq.queue = preparedHead s head :: rest := by simp [readied, prepareHead_zq hq]
  rw [offerFrame, queue]
  simp [ownFrame, sendAddr, ownZone, readied, takeSerial]

/-- The PASS of the offer joins a list that has a place for it (R49). -/
theorem makeOffer_pass {s : State} {head : RackRecord} {rest : List RackRecord} (hc : configured s = true)
    (h8 : (prepareHead s).li.tx.length < 8) (hq : s.zq.queue = head :: rest) (o : Outlet) (z : Addr) :
    freshEntry (ownFrame s .pass z (passBody (s.ex.lastSerial + 1) (preparedHead s head)))
      ∈ (makeOffer o z s).li.tx := by
  have service : configured (readied o s) = true := by
    rw [configured_of_sn (s := s) (by simp [readied]), hc]
  have list : (readied o s).li = (prepareHead s).li := by simp [readied]
  rw [makeOffer_placed hc h8, offerFrame_prepared hq, sendFrame, if_pos (by simp [service]), list]
  simp only []
  rw [placeFrame_joins _ (by simp [ownFrame]) h8 (by simp [ownFrame])]
  exact List.mem_append_right _ (List.mem_singleton_self _)

/-- Settles O45: the offer condition clause by clause, and the offer by the place its PASS finds: the preparation of the
head takes one place of the list at most. -/
theorem offerPreparesTheHead : Obligations.OfferPreparesTheHead := by
  intro s head rest o z hc hq ho hz ready required washed prepared
  have condition : offerReady s = true ↔ ready := by rw [offerReady_iff hq ho hz, zoneReady_iff]
  have record : prepared = preparedHead s head := by
    have capped : washed = { head with washes := min (head.washes + 1) 3 } := by
      have cap : (if head.washes < 3 then head.washes + 1 else 3) = min (head.washes + 1) 3 := by
        split <;> omega
      simp only [washed, cap]
    simp only [prepared, preparedHead, capped]
    cases role s with
    | sort =>
      cases s.sl.judgement with
      | none => rfl
      | some j => cases j.applied <;> cases j.outlet <;> rfl
    | wash | spur | feed | merge | load | unload => rfl
  obtain ⟨longer, atMost⟩ := prepareHead_length s
  refine ⟨fun hn => testOffer_idle (by simpa using mt condition.1 hn), fun hr => ?_⟩
  rw [testOffer_ready (condition.2 hr) ho hz]
  obtain ⟨judgement, service⟩ := makeOffer_prepared o z s
  refine ⟨by simp, by simp [hq], makeOffer_lastSerial o z s, fun hs j hj => ?_, fun h8 => ?_, fun h6 => ?_⟩
  · obtain ⟨judged, counted⟩ := prepareHead_judged hs hq hj
    rw [judgement, service, judged, counted]
    refine ⟨rfl, ?_⟩
    cases j.outlet <;> rfl
  · rw [makeOffer_full hc (by omega)]
    simp [readied, takeSerial, startTimer, holdOffMs]
  · have room : (prepareHead s).li.tx.length < 8 := by omega
    have pass := makeOffer_pass hc room hq o z
    rw [record]
    refine ⟨?_, ?_, fun hs => ?_, pass⟩
    · rw [makeOffer_placed hc room]
      simp [readied, prepareHead_zq hq]
    · rw [makeOffer_placed hc room]
      simp [readied, takeSerial]
    · rw [makeOffer_placed hc room]
      simp [readied, prepareHead_bound hs hq]

/-! # The outcome of an offer

## What the operations of an offer change -/

/-- EX as it stands CLOSED after an offer (R51, R55, R58). -/
def closedExit (x : ExitController) : ExitController :=
  { x with exit := .closed, outlet := none, serial := none, travel := none, release := none, gate := false }

/-- ZQ with the head's binding undone, unless the record that was bound has left the queue (R138). -/
def unboundQueue (gone : Bool) (q : ZoneQueue) : ZoneQueue :=
  match q.queue with
  | [] => q
  | head :: rest => if gone then q else { q with queue := unbound head :: rest }

/-- An offer that bound no call has nothing to undo. -/
theorem unbindOffer_none {s : State} (h : s.cl.offerCall = none) (gone : Bool) : unbindOffer gone s = s := by
  simp [unbindOffer, h]

theorem unbindOffer_bound {s : State} {key : CallKey} (h : s.cl.offerCall = some key) (gone : Bool) :
    unbindOffer gone s
      = { s with zq := unboundQueue gone s.zq, cl := { s.cl with offerCall := none } } := by
  unfold unbindOffer unboundQueue changeHead
  cases gone <;> cases hq : s.zq.queue <;> simp [h]

/-- What an unbinding changes, whether or not the offer bound a call. -/
theorem unbindOffer_eq (gone : Bool) (s : State) :
    unbindOffer gone s
      = { s with zq := (unbindOffer gone s).zq, cl := { s.cl with offerCall := none } } := by
  cases h : s.cl.offerCall with
  | none => rw [unbindOffer_none h, ← h]
  | some key => rw [unbindOffer_bound h]

/-- A refusal closes the exit, starts the hold-off and undoes the binding (R51, R138). -/
theorem refuseOffer_eq (named : Option Addr) (s : State) :
    refuseOffer named s = { s with
      zq := (unbindOffer s.ex.withdrawn s).zq
      cl := { s.cl with offerCall := none }
      ex := { closedExit s.ex with holdOff := some { start := s.tb, duration := 1000 }, holdOffZone := named } } := by
  rw [refuseOffer, unbindOffer_eq]
  rfl

/-- A recall sends the RECALL of the offer, closes the exit and undoes the binding (R58, R138). -/
theorem recallOffer_eq {s : State} {o : Outlet} {z : Addr} {n : Byte} (ho : s.ex.outlet = some o)
    (hz : outletZone s.ss.running o = some z) (hn : s.ex.serial = some n) (gone : Bool) :
    recallOffer gone s = { sendFrame (ownFrame s .recall z [n]) s with
      zq := (unbindOffer gone s).zq
      cl := { s.cl with offerCall := none }
      ex := closedExit s.ex } := by
  have named : s.ex.outlet.bind (outletZone s.ss.running) = some z := by simp [ho, hz]
  have queue := recallOffer_zq gone s
  rw [← queue, recallOffer, named, hn]
  simp only []
  rw [unbindOffer_eq]
  simp [closeExit, endOffer, closedExit]

/-- With a diverter travel of 0 EX passes SWITCHING by (R54). -/
theorem enterSwitching_still {o : Outlet} {s : State} (h : itemNat s.ss.running .diverterTravel = 0) :
    enterSwitching o s = { s with ex := { s.ex with
      exit := .releasing, position := outletPosition s.ss.running o, settled := true, travel := none,
      gate := role s != .wash
      release := some { start := s.tb, duration := 1000 * itemNat s.ss.running .releaseLimit } } } := by
  simp only [enterSwitching, h, if_true]
  rfl

theorem enterSwitching_moving {o : Outlet} {s : State} (h : itemNat s.ss.running .diverterTravel ≠ 0) :
    enterSwitching o s = { s with ex := { s.ex with
      exit := .switching, position := outletPosition s.ss.running o, settled := false,
      travel := some { start := s.tb, duration := itemNat s.ss.running .diverterTravel } } } := by
  simp [enterSwitching, h, startTimer]

/-! ## The ACK of a PASS -/

/-- The offer is recalled at its ACK (R53). -/
def RecalledAtAck (s : State) : Prop := halted s = true ∨ s.sn.service = .faulted ∨ s.ex.withdrawn = true

/-- The diverter has to move for the offer (R50). -/
def DiverterMoves (o : Outlet) (s : State) : Prop :=
  (role s = .sort ∨ role s = .spur)
    ∧ ¬ (s.ex.position = outletPosition s.ss.running o ∧ s.ex.settled = true)

/-- EX at the ACK, once the role logic has heard of it (R50, R53). -/
def moveExit (s : State) : State :=
  if halted s || s.sn.service == .faulted || s.ex.withdrawn then recallOffer s.ex.withdrawn s
  else
    match s.ex.outlet with
    | none => s
    | some o =>
      if movesDiverter (role s) && !(s.ex.position == outletPosition s.ss.running o && s.ex.settled) then
        enterSwitching o s
      else enterReleasing s

theorem acceptOffer_eq (w : Word16) (s : State) :
    acceptOffer w s = moveExit (if role s = .spur then answerCall w s else s) := rfl

theorem moveExit_recalled {s : State} (h : RecalledAtAck s) : moveExit s = recallOffer s.ex.withdrawn s := by
  unfold RecalledAtAck at h
  rw [moveExit, if_pos (by simpa [or_assoc] using h)]

theorem moveExit_going {s : State} {o : Outlet} (h : ¬ RecalledAtAck s) (ho : s.ex.outlet = some o) :
    (DiverterMoves o s → moveExit s = enterSwitching o s)
      ∧ (¬ DiverterMoves o s → moveExit s = enterReleasing s) := by
  unfold RecalledAtAck at h
  have moves : (movesDiverter (role s) && !(s.ex.position == outletPosition s.ss.running o && s.ex.settled)) = true
      ↔ DiverterMoves o s := by
    simp [movesDiverter, DiverterMoves, imp_iff_not_or]
  rw [moveExit, if_neg (by simpa [or_assoc] using h), ho]
  simp only []
  exact ⟨fun hm => if_pos (moves.2 hm), fun hm => if_neg (mt moves.1 hm)⟩

/-! ## The commands that end a PASS -/

/-- The PASS of the offer in progress is the frame being sent. -/
structure PassBeingSent (s : State) (before : List TxEntry) (e : TxEntry) (after : List TxEntry) : Prop where
  awake : Awake s
  list : s.li.tx = before ++ e :: after
  waiting : ∀ x ∈ before, x.sending = false
  sending : e.sending = true
  kind : e.frame.kind = .pass
  addressed : e.frame.target ≠ 0
  plain : e.replacement = none
  offering : s.ex.exit = .offering

/-- The node with another transmit list. -/
def withList (l : List TxEntry) (s : State) : State := { s with li := { s.li with tx := l } }

/-- The entry being sent leaves the list (R145). -/
theorem leaveList_middle {s : State} {before after : List TxEntry} {e : TxEntry}
    (h : s.li.tx = before ++ e :: after) (hr : e.replacement = none) :
    leaveList before.length e s = withList (before ++ after) s := by
  simp only [leaveList, hr, h, Laws.eraseIdx_middle]
  rfl

/-- EX is told how its PASS ended (R50, R51). -/
theorem tellOwner_pass {f : Frame} {s : State} (hk : f.kind = .pass) (hx : s.ex.exit = .offering) :
    tellOwner .acknowledged f s = settle (acceptOffer (wordAt f.body 1) s)
      ∧ tellOwner .held f s = settle (refuseOffer (some f.target) s)
      ∧ tellOwner .failed f s = settle (refuseOffer none s) := by
  simp [tellOwner, isRestartReply, hk, hx]

section
variable {s : State} {before after : List TxEntry} {e : TxEntry} (h : PassBeingSent s before e after)
include h

theorem PassBeingSent.entry : sendingEntry s = some (before.length, e) := by
  have place : sendingPlace s = some before.length := by
    rw [sendingPlace, h.list]
    exact Laws.findIdx?_middle after h.waiting h.sending
  simp [sendingEntry, place, h.list]

theorem PassBeingSent.held (ack : Bool) :
    exec (.replySlotRead ack true) s
      = .next (settle (refuseOffer (some e.frame.target) (withList (before ++ after) s))) := by
  obtain ⟨-, told, -⟩ := tellOwner_pass (s := withList (before ++ after) s) h.kind h.offering
  refine congrArg Host.Outcome.next ?_
  rw [whileRunning_awake h.awake, h.entry]
  simp only [if_neg h.addressed, if_true]
  rw [leaveList_middle h.list h.plain, told]

theorem PassBeingSent.acknowledged :
    exec (.replySlotRead true false) s
      = .next (settle (acceptOffer (wordAt e.frame.body 1) (withList (before ++ after) s))) := by
  obtain ⟨told, -, -⟩ := tellOwner_pass (s := withList (before ++ after) s) h.kind h.offering
  refine congrArg Host.Outcome.next ?_
  rw [whileRunning_awake h.awake, h.entry]
  simp only [if_neg h.addressed, if_true]
  rw [if_neg Bool.false_ne_true, leaveList_middle h.list h.plain, told]

/-- The eighth attempt fails the PASS: LINE_DROP is placed, and EX takes it for a refusal that names no neighbour
(R51, R147). -/
theorem PassBeingSent.failAttempt_last (h7 : e.attempts = 7) :
    failAttempt before.length e s = settle (refuseOffer none
      (sendNotice .lineDrop (addrOctet e.frame.target) 0 2
        { s with li := { s.li with tx := before ++ after, lineDrops := s.li.lineDrops + 1 } })) := by
  have last : 8 ≤ e.attempts + 1 := by omega
  have noNotice : e.frame.kind ≠ .notice := by simp [h.kind]
  rw [failAttempt, if_neg (by simp [h.plain]), if_pos last, failFrame, leaveList_middle h.list h.plain]
  simp only [if_neg noNotice]
  obtain ⟨-, -, told⟩ := tellOwner_pass (f := e.frame) (s := sendNotice .lineDrop (addrOctet e.frame.target) 0
    (BitVec.ofNat 16 (kindCode e.frame.kind)) { withList (before ++ after) s with
      li := { (withList (before ++ after) s).li with lineDrops := (withList (before ++ after) s).li.lineDrops + 1 } })
    h.kind (by simpa [withList] using h.offering)
  rw [told, h.kind]
  rfl

theorem PassBeingSent.failed (h7 : e.attempts = 7) :
    ∀ c ∈ [Instr.selfCheckError, .replySlotRead false false], exec c s = .next (settle (refuseOffer none
      (sendNotice .lineDrop (addrOctet e.frame.target) 0 2
        { s with li := { s.li with tx := before ++ after, lineDrops := s.li.lineDrops + 1,
                                   aborting := c == .selfCheckError || s.li.aborting } }))) := by
  have aborted : PassBeingSent (sendAbort s) before e after := { h with }
  simp only [List.forall_mem_cons, List.not_mem_nil, false_imp_iff, implies_true, and_true]
  constructor
  · refine congrArg Host.Outcome.next ?_
    rw [whileRunning_awake h.awake, h.entry]
    exact aborted.failAttempt_last h7
  · refine congrArg Host.Outcome.next ?_
    rw [whileRunning_awake h.awake, h.entry]
    simp only [if_neg h.addressed, if_neg Bool.false_ne_true]
    exact h.failAttempt_last h7

end

/-! ## The outcome with no call of the offer -/

/-- Settles O28: the command that ends the PASS tells EX its outcome, and with no call of the offer an outcome moves EX
alone. -/
theorem passOutcomesMoveTheExit : Obligations.PassOutcomesMoveTheExit := by
  intro s before e after o z n ha hl hb he hk ht hr hx hc ho hz hn sent closed releasing recalled switching travel
  have pass : PassBeingSent s before e after := ⟨ha, hl, hb, he, hk, ht, hr, hx⟩
  have refused (u : State) (named : Option Addr) (hu : u.cl.offerCall = none) :
      refuseOffer named u = { u with ex := { closedExit u.ex with
        holdOff := some { start := u.tb, duration := 1000 }, holdOffZone := named } } := by
    rw [refuseOffer_eq, unbindOffer_none hu, ← hu]
  have accepted : acceptOffer (wordAt e.frame.body 1) sent = moveExit sent := by
    rw [acceptOffer_eq]
    simp [answerCall, sent, hc]
  have answer : exec (.replySlotRead true false) s = .next (settle (moveExit sent)) := by
    rw [← accepted]; exact pass.acknowledged
  refine ⟨fun ack => ?_, fun hre => ?_, fun hre hsw => ?_, fun hre hsw h0 => ?_, fun hre hsw h0 => ?_,
    fun h7 c hm => ?_⟩
  · rw [pass.held, refused (withList (before ++ after) s) _ hc]
    rfl
  · have call : sent.cl.offerCall = none := hc
    rw [answer, moveExit_recalled (s := sent) hre, recallOffer_eq (s := sent) ho hz hn, unbindOffer_none call, ← call]
    simp only [sendFrame_frame]
    rfl
  · rw [answer, (moveExit_going (s := sent) hre ho).2 hsw]
    rfl
  · rw [answer, (moveExit_going (s := sent) hre ho).1 hsw, enterSwitching_still (s := sent) h0]
    rfl
  · rw [answer, (moveExit_going (s := sent) hre ho).1 hsw, enterSwitching_moving (s := sent) h0]
  · rw [pass.failed h7 c hm, refused _ _ (by simpa using hc)]
    simp only [sendNotice_frame]
    rfl

/-! ## The outcome with a call of the offer -/

/-- At the ACK of a STATION offer the call is answered, leaves the list and is counted (R137). -/
theorem answerCall_eq {s : State} {key : CallKey} (h : s.cl.offerCall = some key) (w : Word16) :
    answerCall w s =
      { sendFrame (ownFrame s .answer 0 ([key.station.setWidth 8, key.serial] ++ wordOctets
          (if s.ex.withdrawn then w else ((s.zq.queue.head?.bind (·.tag)).getD 0).setWidth 16))) s with
        cl := { s.cl with calls := s.cl.calls.filter fun c => c.key != key }
        sn := { s.sn with counts := { s.sn.counts with answered := s.sn.counts.answered + 1 } } } := by
  rw [answerCall, h]
  simp only [count, sendFrame_frame]
  rfl

/-- Settles O29: as for any offer, the command that ends the PASS tells EX its outcome; a refusal and a recall undo the
binding, and the exit moves at an ACK once the call has been answered. -/
theorem spurSettlesTheCallOfItsOffer : Obligations.SpurSettlesTheCallOfItsOffer := by
  intro s before e after o z n key ⟨ha, _⟩ hrole hl hb he hk ht hr hx hc ho hz hn sent unbound tag answered closed
    releasing holdOff recalled inPlace travel
  have pass : PassBeingSent s before e after := ⟨ha, hl, hb, he, hk, ht, hr, hx⟩
  have refused (u : State) (named : Option Addr) (hu : u.cl = s.cl) (hq : u.zq = s.zq) (hw : u.ex = s.ex) :
      refuseOffer named u = { u with
        zq := unbound
        cl := { s.cl with offerCall := none }
        ex := { closedExit s.ex with
          holdOff := some { start := u.tb, duration := 1000 }, holdOffZone := named } } := by
    rw [refuseOffer_eq, unbindOffer_bound (by rw [hu, hc]), hu, hq, hw]
    rfl
  have accepted : acceptOffer (wordAt e.frame.body 1) sent = moveExit answered := by
    have spur : role sent = .spur := hrole
    rw [acceptOffer_eq, if_pos spur, answerCall_eq (s := sent) hc]
    rfl
  have answer : exec (.replySlotRead true false) s = .next (settle (moveExit answered)) := by
    rw [← accepted]; exact pass.acknowledged
  have exit : answered.ex = s.ex := by simp [answered, sent]
  have queue : answered.zq = s.zq := by simp [answered, sent]
  have time : answered.tb = s.tb := by simp [answered, sent]
  have setup : answered.ss = s.ss := by simp [answered, sent]
  have call : answered.cl.offerCall = some key := hc
  have recalls : RecalledAtAck answered ↔ recalled := by
    rw [RecalledAtAck, exit]; rfl
  have spur : role answered = .spur := by rw [role, setup]; exact hrole
  have moves : DiverterMoves o answered ↔ ¬ inPlace := by
    rw [DiverterMoves, exit, setup]
    simp [spur, inPlace]
  have outlet : answered.ex.outlet = some o := by rw [exit, ho]
  refine ⟨fun ack => ?_, fun h7 c hm => ?_, fun hre => ?_, fun hre hin => ?_, fun hre hin h0 => ?_,
    fun hre hin h0 => ?_⟩
  · rw [pass.held, refused (withList (before ++ after) s) _ rfl rfl rfl]
    rfl
  · rw [pass.failed h7 c hm, refused _ _ (by simp) (by simp) (by simp)]
    simp only [sendNotice_frame]
    rfl
  · rw [answer, moveExit_recalled (recalls.2 hre),
      recallOffer_eq outlet (by rw [setup, hz]) (by rw [exit, hn]), unbindOffer_bound call, exit, queue]
    have frame : ownFrame answered .recall z [n] = ownFrame s .recall z [n] := by
      simp only [ownFrame, sendAddr, ownZone, setup]
    rw [frame]
    rfl
  · rw [answer, (moveExit_going (mt recalls.1 hre) outlet).2 (by simpa [moves] using hin), enterReleasing, exit, spur,
      startTimer, time, setup]
    rfl
  · have still : itemNat answered.ss.running .diverterTravel = 0 := by rw [setup]; exact h0
    rw [answer, (moveExit_going (mt recalls.1 hre) outlet).1 (moves.2 hin), enterSwitching_still still, exit, spur,
      time, setup]
    rfl
  · have moving : itemNat answered.ss.running .diverterTravel ≠ 0 := by rw [setup]; exact h0
    rw [answer, (moveExit_going (mt recalls.1 hre) outlet).1 (moves.2 hin), enterSwitching_moving moving, exit, time,
      setup]

/-! # The end of diverter travel and of the release limit

## A node out of service -/

/-- Out of service EX offers nothing, so that the tests of an event leave the exit and the counts (R48). -/
theorem settle_outOfService {s : State} (h : inService s = false) :
    (settle s).ex = s.ex ∧ (settle s).sn.counts = s.sn.counts := by
  have idle : offerReady (testNeed (testQuiet (formJudgement s))) = false := by
    have out : inService (testNeed (testQuiet (formJudgement s))) = false := by simpa [inService] using h
    simp [offerReady, out]
  unfold settle; split
  · simp [testOffer_idle idle]
  · simp

/-- A node in use but out of service has its drive off after the tests (R59). -/
theorem settle_drive_off {s : State} (hc : configured s = true) (h : inService s = false) :
    (settle s).dc.drive = .off := by
  have out : inService (settle s) = false := by simpa using h
  have unwanted : driveWanted (settle s) = false := by simp [driveWanted, out]
  cases hd : (settle s).dc.drive with
  | off => rfl
  | run => simpa [unwanted] using (settle_driveOk hc).1 hd

/-! ## A fault that takes the node out of service -/

/-- A CLOSED exit has no offer to recall, so that entry to FAULTED leaves the exit, the queue and the counts (R14). -/
theorem enterFaulted_closed {s : State} (h : s.ex.exit = .closed) :
    (enterFaulted s).ex = s.ex ∧ (enterFaulted s).zq = s.zq
      ∧ (enterFaulted s).sn = { s.sn with service := .faulted, quiet := none } := by
  have stays : stopExit (cancelRunOn (setDrive .off { s with sn := { s.sn with service := .faulted } }))
      = cancelRunOn (setDrive .off { s with sn := { s.sn with service := .faulted } }) := by
    simp [stopExit, h]
  rw [enterFaulted, stays]
  simp [cancelQuiet]

/-- EXIT_STUCK latched in service with the exit CLOSED: the node is FAULTED, and the fault is kept with its fields
(R14, R153). -/
theorem latchFault_exitStuck {s : State} (hf : s.sn.faults.exitStuck = none) (hs : inService s = true)
    (hx : s.ex.exit = .closed) (d : Byte) (t v : Word16) :
    (latchFault .exitStuck d t v s).ex = s.ex ∧ (latchFault .exitStuck d t v s).zq = s.zq
      ∧ (latchFault .exitStuck d t v s).sn = { s.sn with
          service := .faulted, quiet := none
          faults := { s.sn.faults with exitStuck := some {
            detail := d, tag := t, value := v, renotice := some { start := s.tb, duration := 10000 } } } } := by
  have fresh : (latched? s.sn.faults .exitStuck).isSome = false := by simp [latched?, hf]
  have service (u : State) (hu : u.sn.service = s.sn.service) : inService u = true := by
    rw [← hs, inService, inService, hu]
  rw [latchFault, if_neg (by simp [fresh])]
  simp only []
  rw [if_pos (by simp [service])]
  obtain ⟨hex, hzq, hsn⟩ := enterFaulted_closed (s := { s with sn := { s.sn with
    faults := setLatched s.sn.faults .exitStuck (some {
      detail := d, tag := t, value := v, renotice := some (startTimer s noticeRepeatMs) }) } }) hx
  simp only [sendNotice_frame]
  exact ⟨hex, hzq, hsn⟩

/-! ## The expiries -/

/-- The end of the release limit recalls the offer and latches EXIT_STUCK (R57). -/
theorem exec_releaseLimitExpiry {m : Timer} {s : State} (ha : Awake s) (hx : s.ex.exit = .releasing)
    (hr : s.ex.release = some m) (hm : m.due s.tb = true) :
    exec .releaseLimitExpiry s = .next (settle (releaseStuck s)) := by
  refine congrArg Host.Outcome.next ?_
  rw [whileRunning_awake ha]
  simp only [if_pos hx, onExpiry_due hr hm]

/-- Settles O18: the end of the travel is RELEASING; the release limit recalls the offer, and the fault it latches takes
the node out of service, where the tests make no new offer. -/
theorem travelEndsAndReleaseSticks : Obligations.TravelEndsAndReleaseSticks := by
  refine ⟨fun m s ha hx ht hm => ?_, fun m s o z n hu hx hr hm ho hz hn hs hf => ?_⟩
  · refine congrArg Host.Outcome.next ?_
    rw [whileRunning_awake ha]
    simp only [if_pos hx, onExpiry_due ht hm]
    rfl
  · have ⟨ha, hc⟩ := hu
    have recalled := recallOffer_eq ho hz hn false
    have service : inService (recallOffer false s) = true := by rw [← hs]; simp [inService]
    obtain ⟨lex, lzq, lsn⟩ := latchFault_exitStuck (s := recallOffer false s) (by simpa using hf) service (by simp)
      (z.setWidth 8) (((s.zq.queue.head?.bind (·.tag)).getD 0).setWidth 16) (n.setWidth 16)
    have stuck : releaseStuck s = latchFault .exitStuck (z.setWidth 8)
        (((s.zq.queue.head?.bind (·.tag)).getD 0).setWidth 16) (n.setWidth 16) (recallOffer false s) := by
      simp [releaseStuck, ho, hz, hn, addrOctet, tagWord]
    rw [← stuck] at lex lzq lsn
    have out : inService (releaseStuck s) = false := by simp [inService, lsn]
    have inUse : configured (releaseStuck s) = true := by simp [configured, lsn]
    obtain ⟨tex, tcounts⟩ := settle_outOfService out
    refine ⟨_, exec_releaseLimitExpiry ha hx hr hm, ?_, ?_, settle_drive_off inUse out, ?_, ?_, ?_, fun h8 => ?_⟩
    · rw [tex, lex]; simp
    · simp [lsn]
    · simp [lzq]
    · rw [tcounts, lsn]; simp
    · simp [lsn]
    · have joins : freshEntry (ownFrame s .recall z [n]) ∈ (recallOffer false s).li.tx := by
        rw [recalled]
        simp only [sendFrame, hc, Bool.true_or, if_true]
        rw [placeFrame_joins _ (by simp [ownFrame]) h8 (by simp [ownFrame])]
        exact List.mem_append_right _ (List.mem_singleton_self _)
      have noState : hasKind .state (freshEntry (ownFrame s .recall z [n])) = false := rfl
      refine ⟨_, (settle_placings _).keeps ?_ noState, rfl⟩
      rw [stuck]
      exact (latchFault_placings ..).keeps joins noState

/-! # The STATE of the node and of its neighbours

## What the body of a STATE shows -/

/-- The octet of three flags. -/
theorem flagBits : ∀ first second third : Bool,
    let flags : Byte := (if first then 1 else 0) ||| (if second then 2 else 0) ||| (if third then 4 else 0)
    flags.getLsbD 0 = first ∧ flags.getLsbD 1 = second ∧ flags.getLsbD 2 = third ∧ flags.toNat < 8 := by
  decide

theorem stateFlags_bits (s : State) :
    (stateFlags s).getLsbD 0 = halted s ∧ ((stateFlags s).getLsbD 1 = true ↔ s.dc.drive = .run)
      ∧ (stateFlags s).getLsbD 2 = headAtExit s ∧ ∀ k, 3 ≤ k → (stateFlags s).getLsbD k = false := by
  obtain ⟨halt, drive, head, small⟩ := flagBits (halted s) (s.dc.drive == .run) (headAtExit s)
  simp only [beq_iff_eq] at halt drive head small
  refine ⟨halt, ?_, head, fun k hk => ?_⟩
  · rw [stateFlags, drive, beq_iff_eq]
  · exact Nat.testBit_lt_two_pow (small.trans_le (Nat.pow_le_pow_right (n := 2) (by decide) hk))

theorem headAtExit_iff (s : State) : headAtExit s = true ↔ s.zq.queue ≠ [] ∧ s.zq.eyeX = true := by
  simp [headAtExit]

theorem inService_iff (s : State) :
    inService s = true ↔ s.sn.service = .recovering ∨ s.sn.service = .serving := by
  simp [inService, or_comm]

/-- The head waits at the exit of a node in service (R47). -/
def HeadWaits (s : State) : Prop :=
  s.zq.queue ≠ [] ∧ s.zq.eyeX = true ∧ (s.sn.service = .recovering ∨ s.sn.service = .serving)

theorem headWaits_iff (s : State) : HeadWaits s ↔ (headAtExit s && inService s) = true := by
  rw [Bool.and_eq_true, headAtExit_iff, inService_iff, HeadWaits, and_assoc]

/-- No zone is waited for by a head that does not wait, that is on its way, or that has no outlet (R47). -/
theorem waitedFor_none {s : State}
    (h : ¬ HeadWaits s ∨ s.ex.exit = .switching ∨ s.ex.exit = .releasing ∨ headOutlet s = none) :
    waitedFor s = 0 := by
  rw [headWaits_iff] at h
  unfold waitedFor; split
  · rcases h with h | h | h | h
    · contradiction
    · simp [h]
    · simp [h]
    · cases s.ex.exit <;> simp [h]
  · rfl

theorem waitedFor_closed {s : State} {o : Outlet} (h : HeadWaits s) (ho : headOutlet s = some o)
    (hx : s.ex.exit = .closed) : waitedFor s = (outletZone s.ss.running o).getD 0 := by
  rw [waitedFor, if_pos ((headWaits_iff s).1 h), hx]
  simp [ho]

/-- In OFFERING the head waits for the zone of its offer (log entry 20). -/
theorem waitedFor_offering {s : State} {o : Outlet} (h : HeadWaits s) (hh : headOutlet s ≠ none)
    (hx : s.ex.exit = .offering) (ho : s.ex.outlet = some o) :
    waitedFor s = (outletZone s.ss.running o).getD 0 := by
  rw [waitedFor, if_pos ((headWaits_iff s).1 h), hx]
  simp [Option.isSome_iff_ne_none.2 hh, ho]

theorem addrOctet_getD (z : Option Addr) : addrOctet (z.getD 0) = (z.map (·.setWidth 8)).getD (0 : Byte) := by
  cases z <;> rfl

theorem headOutlet_cons {s : State} {head : RackRecord} {rest : List RackRecord} (hq : s.zq.queue = head :: rest) :
    headOutlet s = match role s with
      | .feed | .merge | .wash => some .one
      | .load => if head.content = .soiled then some .one else none
      | .unload => if head.content = .empty then some .one else none
      | .sort => s.sl.judgement.map (·.outlet)
      | .spur => some (spurChoice s head).1 := by
  cases hr : role s <;> simp only [headOutlet, hq, hr]

/-! ## A neighbour's STATE taken -/

/-- A STATE broadcast by another node reaches NT (R148). -/
theorem exec_stateReceived {source : Addr} {b : StateBody} {s : State} (h : Hearing s) (ho : FromOther source s) :
    exec (.stateReceived source b) s = .next (takeState source b (frameHeard s)) := by
  have ⟨⟨ha, _⟩, _⟩ := h
  refine congrArg Host.Outcome.next ?_
  rw [whileRunning_awake ha, receiveFrame_hearing h ho (by simp [stateFrame]) rfl, takeGood_broadcast _ rfl rfl]
  rfl

theorem takeState_known {source : Addr} {b : StateBody} {s : State} {n : Neighbour}
    (hn : neighbour? s source = some n) :
    takeState source b s = settle (endHoldOffOn source b { s with nt := { s.nt with
      entries := s.nt.entries.map fun x => if x.zone == source then heardNeighbour b s x else x } }) := by
  simp [takeState, hn]

theorem takeState_unknown {source : Addr} {b : StateBody} {s : State} (hn : neighbour? s source = none) :
    takeState source b s = s := by
  simp [takeState, hn]

/-- The hold-off that the neighbour's HOLD started ends at its free place (R52). -/
theorem endHoldOffOn_eq (source : Addr) (b : StateBody) (s : State) :
    endHoldOffOn source b s = { s with ex :=
      if s.ex.holdOff ≠ none ∧ s.ex.holdOffZone = some source ∧ b.free ≠ 0 then
        { s.ex with holdOff := none, holdOffZone := none }
      else s.ex } := by
  have ends : (s.ex.holdOff.isSome && s.ex.holdOffZone == some source && b.free != 0) = true
      ↔ s.ex.holdOff ≠ none ∧ s.ex.holdOffZone = some source ∧ b.free ≠ 0 := by
    simp [Option.isSome_iff_ne_none, and_assoc]
  by_cases h : s.ex.holdOff ≠ none ∧ s.ex.holdOffZone = some source ∧ b.free ≠ 0
  · rw [endHoldOffOn, if_pos (ends.2 h), if_pos h]
  · rw [endHoldOffOn, if_neg (mt ends.1 h), if_neg h]

/-- Settles O38: the body field by field, with the waited-for zone by what the head waits for; and a STATE by whether its
zone stands in the neighbour table. -/
theorem stateIsTakenFromANeighbour : Obligations.StateIsTakenFromANeighbour := by
  refine ⟨?_, fun source b s h ho => ⟨fun n hn => ?_, fun hn => ?_⟩⟩
  · intro s b zoneOctet waits
    obtain ⟨halt, drive, head, rest⟩ := stateFlags_bits s
    refine ⟨rfl, fun hs => ?_, fun hs => ?_, fun hs => ?_, halt, drive, ?_, rest, rfl, rfl, rfl, fun hw => ?_,
      fun o hw hh hx => ?_, fun o hw hh hx ho => ?_, fun head rest hq => headOutlet_cons hq⟩
    · simp [b, ownBody, hs, serviceCode, octet]
    · simp [b, ownBody, hs, serviceCode, octet]
    · simp [b, ownBody, hs, serviceCode, octet]
    · rw [← headAtExit_iff, ← head]; rfl
    · exact congrArg addrOctet (waitedFor_none hw)
    · exact (congrArg addrOctet (waitedFor_closed hw hh hx)).trans (addrOctet_getD _)
    · exact (congrArg addrOctet (waitedFor_offering hw hh hx ho)).trans (addrOctet_getD _)
  · have known : neighbour? (frameHeard s) source = some n := hn
    have entries : (fun x : Neighbour => if x.zone == source then heardNeighbour b (frameHeard s) x else x)
        = fun x => if x.zone = source then
            { zone := source, last := some b, lastHeard := some s.tb, presence := .present,
              silence := some { start := s.tb, duration := 1500 } }
          else x := by
      funext x
      by_cases hx : x.zone = source
      · simp [hx, heardNeighbour, startTimer, silenceMs]
      · simp [hx]
    rw [exec_stateReceived h ho, takeState_known known, entries, endHoldOffOn_eq]
    rfl
  · have unknown : neighbour? (frameHeard s) source = none := hn
    rw [exec_stateReceived h ho, takeState_unknown unknown]

end Sys2Proof.ExitProofs
end

section
/-! The handover between neighbours (chapter 4): the proofs. -/

namespace Sys2Proof.HandoverProofs
open Sys2Proof.Machine

/-! # The record of a PASS

## Two-octet fields, tags, stations and codes -/

theorem ofOctets_toNat (high low : Byte) : (ofOctets high low).toNat = high.toNat * 256 + low.toNat := by
  rw [ofOctets, BitVec.toNat_append, ← Nat.shiftLeft_add_eq_or_of_lt low.isLt, Nat.shiftLeft_eq]

/-- A two-octet field is read as it was written. -/
theorem ofOctets_highOctet_lowOctet (w : Word16) : ofOctets (highOctet w) (lowOctet w) = w := by
  apply BitVec.eq_of_toNat_eq
  rw [ofOctets_toNat, highOctet, lowOctet, BitVec.extractLsb'_toNat, BitVec.extractLsb'_toNat,
    Nat.shiftRight_eq_div_pow]
  have := w.isLt
  omega

theorem octet_toNat {n : Nat} (h : n < 256) : (octet n).toNat = n := by
  simpa [octet] using h

theorem tagOfWord_isSome (w : Word16) : (tagOfWord w).isSome = true ↔ 1 ≤ w.toNat ∧ w.toNat ≤ 4095 := by
  simp [tagOfWord]

theorem tagOfWord_toNat {w : Word16} {t : BitVec 12} (h : tagOfWord w = some t) : t.toNat = w.toNat := by
  have ⟨h1, h2⟩ := (tagOfWord_isSome w).1 (by simp [h])
  rw [RackProofs.tagOfWord_eq_some h1 h2, Option.some.injEq] at h
  rw [← h, BitVec.toNat_setWidth]
  omega

/-- A tag is read as it was written: 0 stands for none (R72). -/
theorem tagOfWord_tagWord {tag : Option (BitVec 12)} (h : tag ≠ some 0) : tagOfWord (tagWord tag) = tag := by
  cases tag with
  | none => rfl
  | some t =>
    have nonzero : t.toNat ≠ 0 := fun h0 => h (congrArg some (BitVec.eq_of_toNat_eq h0))
    have field : (tagWord (some t)).toNat = t.toNat := by
      rw [tagWord, Option.getD_some, BitVec.toNat_setWidth]; omega
    rw [RackProofs.tagOfWord_eq_some (by omega) (by omega), tagWord, Option.getD_some]
    exact congrArg some (BitVec.setWidth_setWidth_of_le t (by decide))

theorem stationOfOctet_isSome (b : Byte) : (stationOfOctet b).isSome = true ↔ 1 ≤ b.toNat ∧ b.toNat ≤ 15 := by
  simp [stationOfOctet]

theorem stationOfOctet_toNat {b : Byte} {st : Station} (h : stationOfOctet b = some st) : st.toNat = b.toNat := by
  have ⟨h1, h2⟩ := (stationOfOctet_isSome b).1 (by simp [h])
  simp only [stationOfOctet, h1, h2, decide_true, Bool.and_self, if_true, Option.some.injEq] at h
  rw [← h, BitVec.toNat_setWidth]
  omega

/-- A station is read as it was written: 0 stands for none (R72). -/
theorem stationOfOctet_stationOctet {st : Option Station} (h : st ≠ some 0) :
    stationOfOctet (stationOctet st) = st := by
  cases st with
  | none => rfl
  | some st => exact stationOfOctet_station fun h0 => h (congrArg some h0)

theorem contentOfCode_contentCode (c : Content) : contentOfCode (octet (contentCode c)) = c := by
  cases c <;> rfl

theorem verdictOfCode_verdictCode {v : Verdict} (h : v ≠ .pending) : verdictOfCode (octet (verdictCode v)) = v := by
  cases v with
  | pending => exact absurd rfl h
  | met => rfl
  | short => rfl
  | probeLost => rfl

/-! ## Results read from a body (R144) -/

/-- The results are read four octets at a time, as many as the length gives. -/
theorem readResults_eq (l : List Byte) :
    readResults l = (List.range (l.length / 4)).map fun i =>
      readResult (octetAt l (4 * i)) (octetAt l (4 * i + 1)) (octetAt l (4 * i + 2)) (octetAt l (4 * i + 3)) := by
  induction l using readResults.induct with
  | case1 stage high low verdict rest ih =>
    have count : (stage :: high :: low :: verdict :: rest).length / 4 = rest.length / 4 + 1 := by
      simp only [List.length_cons]; omega
    rw [readResults, ih, count, List.range_succ_eq_map]
    simp [octetAt, Nat.mul_add]
  | case2 l h =>
    have short : l.length / 4 = 0 := by
      match l, h with
      | [], _ | [_], _ | [_, _], _ | [_, _, _], _ => simp
      | a :: b :: c :: d :: rest, h => exact (h a b c d rest rfl).elim
    simp [readResults, short]

/-- The result at a place of a PASS body (R144). -/
def resultAt (body : List Byte) (i : Nat) : StageResult :=
  readResult (octetAt body (9 + 4 * i)) (octetAt body (10 + 4 * i)) (octetAt body (11 + 4 * i))
    (octetAt body (12 + 4 * i))

theorem resultAt_eq (body : List Byte) (i : Nat) :
    resultAt body i =
      { stage := (octetAt body (9 + 4 * i)).toNat
        credit := (octetAt body (10 + 4 * i)).toNat * 256 + (octetAt body (11 + 4 * i)).toNat
        verdict := verdictOfCode (octetAt body (12 + 4 * i)), faultSeen := false } := by
  rw [resultAt, readResult, ofOctets_toNat]

theorem readResults_drop (body : List Byte) :
    readResults (body.drop 9) = (List.range ((body.length - 9) / 4)).map (resultAt body) := by
  have place (n : Nat) : octetAt (body.drop 9) n = octetAt body (9 + n) := by simp [octetAt]
  rw [readResults_eq, List.length_drop]
  refine List.map_congr_left fun i _ => ?_
  simp only [place, resultAt]
  congr 2 <;> omega

/-- The octets of a result that a PASS may carry are read as that result. -/
theorem readResults_flatMap {l : List StageResult}
    (h : ∀ e ∈ l, e.stage ≤ 4 ∧ e.credit ≤ 65535 ∧ e.verdict ≠ .pending ∧ e.faultSeen = false) :
    readResults (l.flatMap resultOctets) = l := by
  induction l with
  | nil => rfl
  | cons e rest ih =>
    obtain ⟨stage, credit, verdict, seen⟩ := h e (by simp)
    have credits : (BitVec.ofNat 16 e.credit).toNat = e.credit := by
      rw [BitVec.toNat_ofNat]; omega
    have first : readResult (octet e.stage) (highOctet (BitVec.ofNat 16 e.credit))
        (lowOctet (BitVec.ofNat 16 e.credit)) (octet (verdictCode e.verdict)) = e := by
      rw [readResult, octet_toNat (by omega), ofOctets_highOctet_lowOctet, credits,
        verdictOfCode_verdictCode verdict, ← seen]
    calc readResults ((e :: rest).flatMap resultOctets)
        = readResult (octet e.stage) (highOctet (BitVec.ofNat 16 e.credit))
            (lowOctet (BitVec.ofNat 16 e.credit)) (octet (verdictCode e.verdict))
          :: readResults (rest.flatMap resultOctets) := by
          simp [resultOctets, wordOctets, readResults]
      _ = e :: rest := by rw [first, ih fun x hx => h x (by simp [hx])]

/-! ## Results kept (R72) -/

theorem clampResults_cons (taken : List Nat) (r : StageResult) (rest : List StageResult) :
    clampResults taken (r :: rest) = if 1 ≤ r.stage ∧ r.stage ≤ 4 ∧ r.stage ∉ taken then
        r :: clampResults (r.stage :: taken) rest
      else clampResults taken rest := by
  simp [clampResults, and_assoc]

/-- The last result of a PASS is kept when its stage lies within 1 to 4 and no result before it has it. -/
theorem clampResults_concat (taken : List Nat) (l : List StageResult) (r : StageResult) :
    clampResults taken (l ++ [r]) = clampResults taken l ++
      if 1 ≤ r.stage ∧ r.stage ≤ 4 ∧ r.stage ∉ taken ∧ ∀ e ∈ l, e.stage ≠ r.stage then [r] else [] := by
  induction l generalizing taken with
  | nil => simp [clampResults_cons, clampResults]
  | cons e rest ih =>
    rw [List.cons_append, clampResults_cons, clampResults_cons]
    by_cases he : 1 ≤ e.stage ∧ e.stage ≤ 4 ∧ e.stage ∉ taken
    · have apart : r.stage ∉ e.stage :: taken ↔ e.stage ≠ r.stage ∧ r.stage ∉ taken := by
        simp [eq_comm]
      rw [if_pos he, if_pos he, ih, List.cons_append]
      simp only [apart, List.forall_mem_cons, and_assoc, and_left_comm]
    · have other : r.stage = e.stage → ¬ (1 ≤ r.stage ∧ r.stage ≤ 4 ∧ r.stage ∉ taken) := fun h => h ▸ he
      rw [if_neg he, if_neg he, ih]
      congr 2
      rw [List.forall_mem_cons]
      grind

/-- The results kept, by their places. -/
theorem clampResults_map_range (f : Nat → StageResult) (n : Nat) :
    clampResults [] ((List.range n).map f) = ((List.range n).filter fun i =>
      1 ≤ (f i).stage && (f i).stage ≤ 4 && (List.range i).all fun j => (f j).stage != (f i).stage).map f := by
  induction n with
  | zero => rfl
  | succ n ih =>
    rw [List.range_succ, List.map_append, List.map_singleton, clampResults_concat, ih, List.filter_append,
      List.map_append]
    congr 1
    rw [List.filter_singleton, Bool.cond_eq_ite, apply_ite (List.map f)]
    simp [and_assoc]

/-- Results that meet the receiver's conditions are all kept. -/
theorem clampResults_self {taken : List Nat} {l : List StageResult}
    (h : ∀ e ∈ l, 1 ≤ e.stage ∧ e.stage ≤ 4 ∧ e.stage ∉ taken) (hn : (l.map (·.stage)).Nodup) :
    clampResults taken l = l := by
  induction l generalizing taken with
  | nil => rfl
  | cons e rest ih =>
    obtain ⟨h1, h4, fresh⟩ := h e (by simp)
    obtain ⟨apart, hn⟩ := List.nodup_cons.1 hn
    rw [clampResults_cons, if_pos ⟨h1, h4, fresh⟩, ih (fun x hx => ?_) hn]
    obtain ⟨x1, x4, xt⟩ := h x (by simp [hx])
    refine ⟨x1, x4, fun hm => ?_⟩
    rcases List.mem_cons.1 hm with same | hm
    · exact apart (List.mem_map.2 ⟨x, hx, same⟩)
    · exact xt hm

/-- Settles O36: each field by its reader, and the results by their places in the body. -/
theorem passRecordIsClamped : Obligations.PassRecordIsClamped := by
  intro body _ r at' tag stage
  have field : (wordAt body 1).toNat = tag := ofOctets_toNat ..
  refine ⟨?_, fun t ht => ?_, rfl, stationOfOctet_isSome _, fun st hst => stationOfOctet_toNat hst, ?_, ?_,
    fun k hk => ?_, ?_⟩
  · rw [← field]; exact tagOfWord_isSome _
  · rw [← field]; exact tagOfWord_toNat ht
  · exact Nat.min_def ..
  · exact Option.isSome_map.symm ▸ stationOfOctet_isSome (octetAt body 6)
  · obtain ⟨st, hst, rfl⟩ := Option.map_eq_some_iff.1 hk
    exact ⟨stationOfOctet_toNat hst, rfl⟩
  · calc r.results
        = clampResults [] ((List.range ((body.length - 9) / 4)).map (resultAt body)) :=
          congrArg (clampResults []) (readResults_drop body)
      _ = _ := by rw [clampResults_map_range, funext (resultAt_eq body)]; rfl

/-! ## The body of a PASS read again -/

/-- A record within its ranges has at most one result of each of the four stages (R22). -/
theorem results_length_le {r : RackRecord} (h : RecordOk r) : r.results.length ≤ 4 := by
  obtain ⟨-, hn, hb⟩ := h
  have stages : r.results.map (·.stage) ⊆ [1, 2, 3, 4] := by
    intro n hm
    obtain ⟨e, he, rfl⟩ := List.mem_map.1 hm
    obtain ⟨h1, h4, -⟩ := hb e he
    have four : e.stage = 1 ∨ e.stage = 2 ∨ e.stage = 3 ∨ e.stage = 4 := by omega
    simpa using four
  simpa using (hn.subperm stages).length_le

theorem flatMap_resultOctets_length (l : List StageResult) : (l.flatMap resultOctets).length = 4 * l.length := by
  simp [List.length_flatMap, resultOctets, wordOctets, Nat.mul_comm]

theorem passBody_length (serial : Byte) (r : RackRecord) :
    (passBody serial r).length = 9 + 4 * r.results.length := by
  rw [passBody, List.length_append, flatMap_resultOctets_length]
  rfl

/-- The record read from the body of a PASS, field by field. -/
theorem clampedRecord_passBody (serial : Byte) (r : RackRecord) :
    clampedRecord (passBody serial r) =
      { tag := tagOfWord (ofOctets (highOctet (tagWord r.tag)) (lowOctet (tagWord r.tag)))
        content := contentOfCode (octet (contentCode r.content))
        origin := stationOfOctet (stationOctet r.origin)
        washes := min (octet r.washes).toNat 3
        bound := (stationOfOctet (stationOctet (r.bound.map (·.station)))).map fun st =>
          { station := st, serial := (r.bound.map (·.serial)).getD 0 }
        results := clampResults [] (readResults (r.results.flatMap resultOctets)) } := rfl

/-- Settles O37: each field is read as it was written, and within the ranges no result is dropped. -/
theorem passBodyCarriesTheRecord : Obligations.PassBodyCarriesTheRecord := by
  intro serial r hr frozen htag horigin hbound
  have few := results_length_le hr
  obtain ⟨hw, hn, hb⟩ := hr
  refine ⟨passBody_length .., ?_, rfl, ?_⟩
  · have lengths : ∀ n ≤ 4, lengthAllowed .pass (9 + 4 * n) = true := by decide
    rw [passBody_length]
    exact lengths _ few
  · have washes : min (octet r.washes).toNat 3 = r.washes := by
      rw [octet_toNat (by omega)]; exact min_eq_left hw
    have bound : ((stationOfOctet (stationOctet (r.bound.map (·.station)))).map fun st =>
        ({ station := st, serial := (r.bound.map (·.serial)).getD 0 } : CallKey)) = r.bound := by
      rw [stationOfOctet_stationOctet (by simpa using hbound)]
      cases r.bound <;> rfl
    have results : clampResults [] (readResults (r.results.flatMap resultOctets)) = r.results := by
      rw [readResults_flatMap fun e he => ⟨(hb e he).2.1, (hb e he).2.2, frozen e he⟩]
      exact clampResults_self (fun e he => by simpa using ⟨(hb e he).1, (hb e he).2.1⟩) hn
    rw [clampedRecord_passBody, ofOctets_highOctet_lowOctet, tagOfWord_tagWord htag, contentOfCode_contentCode,
      stationOfOctet_stationOctet horigin, washes, bound, results]

/-! # The timers of entries

A notice, a STATE or a CALL placed by a node in use changes its transmit list alone, so it does not matter whether the
entry's change stands before or after it. -/

theorem sendFrame_configured {s : State} (h : configured s = true) (f : Frame) :
    sendFrame f s = { s with li := (placeFrame f s.li).1 } := by
  simp [sendFrame, h]

theorem repeatNotice_eq {s : State} (h : configured s = true) (k : FaultKind) (f : LatchedFault) :
    repeatNotice k f s = { sendNotice (.fault k) f.detail f.tag f.value s with
      sn := { s.sn with faults := setLatched s.sn.faults k (some
        { f with renotice := some { start := s.tb, duration := 10000 } }) } } := by
  rw [repeatNotice, sendNotice, sendNotice, sendFrame_configured h, sendFrame_configured (by exact h)]
  rfl

theorem repeatCall_eq {s : State} (h : configured s = true) (e : CallEntry) :
    repeatCall e s = { sendFrame (ownFrame s .call 0 [e.key.station.setWidth 8, e.key.serial]) s with
      cl := { s.cl with calls := s.cl.calls.map fun x =>
        if x.key = e.key then { x with lastHeard := s.tb, timer := some { start := s.tb, duration := 20000 } }
        else x } } := by
  have again : (fun x : CallEntry => if x.key == e.key then
        { e with lastHeard := s.tb, timer := some (startTimer s callRepeatMs) } else x)
      = fun x => if x.key = e.key then
          { x with lastHeard := s.tb, timer := some { start := s.tb, duration := 20000 } } else x := by
    funext x
    by_cases hx : x.key = e.key
    · simp [hx, startTimer, callRepeatMs]
    · simp [hx]
  rw [repeatCall, again, sendFrame_configured h, sendFrame_configured (by exact h)]
  rfl

theorem loseNeighbour_eq (z : Addr) (s : State) :
    loseNeighbour z s = sendNotice .neighbourLost (z.setWidth 8) 0 0
      { s with nt := { s.nt with entries := s.nt.entries.map fun x =>
        if x.zone = z then { x with presence := .absent, silence := none } else x } } := by
  simp [loseNeighbour, silenced, addrOctet]

/-- Settles O19: each timer is due, so its expiry has its effect on the state as it stands. -/
theorem entryTimersRepeatOrEnd : Obligations.EntryTimersRepeatOrEnd := by
  intro m s ⟨ha, hc⟩ hm
  have effect {f : State → State} {t : State} (h : f s = t) :
      (Host.Outcome.next (whileRunning f s) : Answer) = .next t := by rw [whileRunning_awake ha, h]
  refine ⟨fun ht => effect ?_, fun k f hk ht => effect ?_, fun e hr he ht => effect ?_,
    fun z n hn ht => effect ?_, fun e hr he ht => effect ?_⟩
  · rw [onExpiry_due ht hm]
    rfl
  · simp only [hk]
    rw [onExpiry_due ht hm, repeatNotice_eq hc]
  · have found : callOfSerial e.key.serial s = some e := he
    simp only [hr, found]
    rw [onExpiry_due ht hm, repeatCall_eq hc]
  · simp only [hn]
    rw [onExpiry_due ht hm, loseNeighbour_eq]
  · simp only [hr, he]
    rw [onExpiry_due ht hm]
    rfl

end Sys2Proof.HandoverProofs
end

section
/-! Merging two flows (chapter 5): the proofs. -/

namespace Sys2Proof.MergeProofs
open Sys2Proof.Machine

/-! # The arbiter of a MERGE

## Its inputs (R70, R85, R86) -/

/-- A zone that is both upstreams counts as upstream 1 (R70). -/
theorem upstreamOf_eq_some {source : Addr} {u : Inlet} {s : State} (hu : inletZone s.ss.running u = some source)
    (first : u = .two → inletZone s.ss.running .one ≠ some source) : upstreamOf s source = some u := by
  cases u with
  | one => exact if_pos hu
  | two => exact (if_neg (first rfl)).trans (if_pos hu)

theorem presentState?_eq_some {s : State} {z : Addr} {b : StateBody} :
    presentState? s z = some b ↔ ∃ n, neighbour? s z = some n ∧ n.presence = .present ∧ n.last = some b := by
  simp [presentState?, Option.bind_eq_some_iff]

theorem upstreamWaiting_iff {s : State} {own : Addr} (hz : ownZone s = some own) (u : Inlet) :
    upstreamWaiting s u = true ↔ ∃ z n b, inletZone s.ss.running u = some z ∧ neighbour? s z = some n
      ∧ n.presence = .present ∧ n.last = some b ∧ b.flags.getLsbD 2 = true ∧ b.waited = own.setWidth 8 := by
  have heard (b : StateBody) : (inletZone s.ss.running u).bind (presentState? s) = some b
      ↔ ∃ z n, inletZone s.ss.running u = some z ∧ neighbour? s z = some n ∧ n.presence = .present
        ∧ n.last = some b := by
    simp [Option.bind_eq_some_iff, presentState?_eq_some]
  have shown : upstreamWaiting s u = true ↔ ∃ b, (inletZone s.ss.running u).bind (presentState? s) = some b
      ∧ b.flags.getLsbD 2 = true ∧ b.waited = own.setWidth 8 := by
    rw [upstreamWaiting, hz]
    cases (inletZone s.ss.running u).bind (presentState? s) <;> simp [bodyHeadWaiting, addrOctet]
  simp only [shown, heard]
  exact ⟨fun ⟨b, ⟨z, n, hi, hn, hp, hl⟩, hw⟩ => ⟨z, n, b, hi, hn, hp, hl, hw⟩,
    fun ⟨z, n, b, hi, hn, hp, hl, hw⟩ => ⟨b, ⟨z, n, hi, hn, hp, hl⟩, hw⟩⟩

theorem runningMergeMode_alternate {c : Items} (h : itemNat c .mergeMode = 0) : runningMergeMode c = .alternate :=
  if_pos h

theorem runningMergeMode_priority {c : Items} (h : itemNat c .mergeMode ≠ 0) : runningMergeMode c = .priority :=
  if_neg h

/-! ## Its answer (R86, R87, R89, R90) -/

/-- The arbiter's HOLD: with two distinct upstreams, for the other one that waits, by the mode. -/
theorem arbitrate_eq_false {u : Inlet} {s : State} :
    arbitrate u s = false ↔ inletZone s.ss.running .one ≠ inletZone s.ss.running .two
      ∧ upstreamWaiting s (otherInlet u) = true
      ∧ ((itemNat s.ss.running .mergeMode = 0 ∧ freePlaces s = 1 ∧ s.ma.turn = otherInlet u)
        ∨ (itemNat s.ss.running .mergeMode ≠ 0 ∧ u = .two ∧ s.ma.guard < 4)
        ∨ (itemNat s.ss.running .mergeMode ≠ 0 ∧ u = .one ∧ 4 ≤ s.ma.guard ∧ freePlaces s = 1)) := by
  unfold arbitrate sameUpstreams
  by_cases same : inletZone s.ss.running .one = inletZone s.ss.running .two
  · simp [same]
  by_cases mode : itemNat s.ss.running .mergeMode = 0
  · simp [same, mode, runningMergeMode_alternate mode, and_assoc]
  · cases u with
    | one => simp [same, mode, runningMergeMode_priority mode, and_assoc, and_left_comm]
    | two => simp [same, mode, runningMergeMode_priority mode]

/-! ## What an ACK does to it (R86, R88, R91) -/

theorem arbitrated_same {s : State} (h : inletZone s.ss.running .one = inletZone s.ss.running .two) (u : Inlet) :
    arbitrated u s = s.ma := by
  simp [arbitrated, sameUpstreams, h]

theorem arbitrated_alternate {s : State} (h : inletZone s.ss.running .one ≠ inletZone s.ss.running .two)
    (mode : itemNat s.ss.running .mergeMode = 0) (u : Inlet) :
    arbitrated u s = if upstreamWaiting s (otherInlet u) then { s.ma with turn := otherInlet u } else s.ma := by
  simp [arbitrated, sameUpstreams, h, runningMergeMode_alternate mode]

/-- In PRIORITY an ACK to upstream 1 counts up to 255 while upstream 2 waits. -/
theorem arbitrated_priority_one {s : State} (h : inletZone s.ss.running .one ≠ inletZone s.ss.running .two)
    (mode : itemNat s.ss.running .mergeMode ≠ 0) :
    arbitrated .one s = if upstreamWaiting s .two then
      { s.ma with guard := if s.ma.guard < 255 then s.ma.guard + 1 else 255 } else s.ma := by
  have count : min (s.ma.guard + 1) 255 = if s.ma.guard < 255 then s.ma.guard + 1 else 255 := by
    split <;> omega
  simp [arbitrated, sameUpstreams, h, runningMergeMode_priority mode, otherInlet, count]

theorem arbitrated_priority_two {s : State} (h : inletZone s.ss.running .one ≠ inletZone s.ss.running .two)
    (mode : itemNat s.ss.running .mergeMode ≠ 0) : arbitrated .two s = { s.ma with guard := 0 } := by
  simp [arbitrated, sameUpstreams, h, runningMergeMode_priority mode]

/-! ## A PASS at a MERGE (R71, R73) -/

/-- A PASS addressed to the node that hears it is ZQ's to take (R70, R148). -/
theorem exec_passReceived {source target : Addr} {body : List Byte} {s : State} (h : Hearing s)
    (ho : FromOther source s) (hz : ownZone s = some target) (h1 : 1 ≤ target.toNat) (h60 : target.toNat ≤ 60)
    (hlen : body.length ∈ [9, 13, 17, 21, 25]) :
    exec (.passReceived source target body) s = .next (takePass source body (frameHeard s)) := by
  refine congrArg Host.Outcome.next (RackProofs.received_own h ho hz (by simp) ?_ ?_)
  · simpa [lengthAllowed, passLengthOk, or_assoc] using hlen
  · simp [targetAllowed, isZone, h1, h60]

/-- At a MERGE that could take the record the arbiter decides (R71). -/
theorem passDecision_merge {source : Addr} {u : Inlet} {s : State} (hu : upstreamOf s source = some u)
    (hs : s.sn.service = .serving) (hh : halted s = false)
    (hc : s.zq.queue.length + s.zq.expected.length < capacity s) (hm : role s = .merge) :
    passDecision source s = if arbitrate u s then some u else none := by
  cases answer : arbitrate u s <;> simp [passDecision, hu, hs, hh, hc, hm, answer]

/-- A record that joins at a MERGE: the arbiter takes part and no call is judged (R73). -/
theorem joinExpected_merge {s : State} (hm : role s = .merge) (source : Addr) (body : List Byte) (u : Inlet) :
    (joinExpected source body u s).ma = arbitrated u s
      ∧ (joinExpected source body u s).zq.expected = s.zq.expected ++ [passEntry source body s] := by
  simp only [joinExpected, if_pos hm]
  split <;> simp

/-- What an ACK at a MERGE leaves of the arbiter and the expected list once the tests of the event are done. -/
theorem takePass_merge_ack {source : Addr} {u : Inlet} {s : State} (hm : role s = .merge)
    (hd : passDecision source s = some u) (body : List Byte) :
    (takePass source body s).li.slot = .ack ∧ (takePass source body s).ma = arbitrated u s
      ∧ (takePass source body s).zq.expected.length = s.zq.expected.length + 1 := by
  obtain ⟨ma, expected⟩ := joinExpected_merge hm source body u
  rw [takePass, hd]
  exact ⟨rfl, by simp [ma], by simp [expected]⟩

/-- Settles O34: the PASS reaches the arbiter, whose HOLD and whose update on ACK are those of the mode. -/
theorem arbiterDecidesAtAMerge : Obligations.ArbiterDecidesAtAMerge := by
  intro source target body u s h ho hz h1 h60 hlen hm hu first hs hh hc other distinct waiting alternate held
  have taken := exec_passReceived h ho hz h1 h60 hlen
  have decision : passDecision source (frameHeard s) = if arbitrate u (frameHeard s) then some u else none :=
    passDecision_merge (upstreamOf_eq_some (s := frameHeard s) hu first) hs hh hc hm
  have waits : upstreamWaiting (frameHeard s) other = true ↔ waiting :=
    upstreamWaiting_iff (s := frameHeard s) hz other
  have holds : arbitrate u (frameHeard s) = false ↔ held :=
    arbitrate_eq_false.trans (and_congr_right fun _ => and_congr_left fun _ => waits)
  rw [taken]
  refine ⟨fun hheld => ?_, fun hfree => ?_⟩
  · have hold : passDecision source (frameHeard s) = none := by simp [decision, holds.2 hheld]
    rw [takePass, hold]
  · have ack : passDecision source (frameHeard s) = some u := by
      rw [decision, if_pos (by simpa using mt holds.1 hfree)]
    obtain ⟨slot, ma, expected⟩ := takePass_merge_ack (s := frameHeard s) hm ack body
    refine ⟨_, rfl, slot, expected, fun hsame => ?_, fun hd mode => ?_, fun hd mode hone => ?_,
      fun hd mode htwo => ?_⟩
    · rw [ma]
      exact arbitrated_same (not_not.1 hsame) u
    · have updated := ma.trans (arbitrated_alternate (s := frameHeard s) hd mode u)
      exact ⟨fun hw => updated.trans (if_pos (waits.2 hw)), fun hw => updated.trans (if_neg (mt waits.1 hw))⟩
    · subst hone
      have updated := ma.trans (arbitrated_priority_one (s := frameHeard s) hd mode)
      exact ⟨fun hw => updated.trans (if_pos (waits.2 hw)), fun hw => updated.trans (if_neg (mt waits.1 hw))⟩
    · subst htwo
      exact ma.trans (arbitrated_priority_two (s := frameHeard s) hd mode)

end Sys2Proof.MergeProofs
end

section
/-! Wash zones and rinse credit (chapter 6): the proofs. -/

namespace Sys2Proof.WashProofs
open Sys2Proof.Machine

/-! # What a fault latched in service does to the racks

## Nothing but an undone binding (R14, R18, R138)

A sample may latch JAM, and entry to FAULTED may then recall the offer and undo the binding of the head. `OnlyUnbinds`
says that nothing else happens to the racks, the calls, the neighbours, the counts and the halt condition. -/

/-- `t` holds the records of `s`, in their order, but for their bound calls. -/
structure OnlyUnbinds (s t : State) : Prop where
  records : t.zq.queue.map unbound = s.zq.queue.map unbound
  expected : t.zq.expected = s.zq.expected
  calls : t.cl.calls = s.cl.calls
  neighbours : t.nt.entries = s.nt.entries
  counts : t.sn.counts = s.sn.counts
  halt : halted t = halted s

theorem OnlyUnbinds.refl (s : State) : OnlyUnbinds s s := ⟨rfl, rfl, rfl, rfl, rfl, rfl⟩

theorem OnlyUnbinds.trans {s t u : State} (h : OnlyUnbinds s t) (h' : OnlyUnbinds t u) : OnlyUnbinds s u where
  records := h'.records.trans h.records
  expected := h'.expected.trans h.expected
  calls := h'.calls.trans h.calls
  neighbours := h'.neighbours.trans h.neighbours
  counts := h'.counts.trans h.counts
  halt := h'.halt.trans h.halt

theorem OnlyUnbinds.of_frame {s t : State} (hz : t.zq = s.zq) (hc : t.cl = s.cl) (hn : t.nt = s.nt)
    (hs : t.sn = s.sn) : OnlyUnbinds s t := by
  constructor <;> simp [hz, hc, hn, hs, halted]

/-- Every field of the records but their bound calls is kept. -/
theorem OnlyUnbinds.map_eq {α : Type} {s t : State} (h : OnlyUnbinds s t) {field : RackRecord → α}
    (hf : ∀ r, field (unbound r) = field r) : t.zq.queue.map field = s.zq.queue.map field := by
  have through (l : List RackRecord) : l.map field = (l.map unbound).map field := by simp [hf]
  rw [through, h.records, ← through]

theorem unbindOffer_records (gone : Bool) (s : State) :
    (unbindOffer gone s).zq.queue.map unbound = s.zq.queue.map unbound := by
  unfold unbindOffer; split
  · cases gone with
    | true => rfl
    | false => cases hq : s.zq.queue <;> simp [changeHead, hq, unbound]
  · rfl

theorem recallOffer_onlyUnbinds (gone : Bool) (s : State) : OnlyUnbinds s (recallOffer gone s) where
  records := by rw [recallOffer_zq, unbindOffer_records]
  expected := by simp
  calls := by simp
  neighbours := by simp
  counts := by simp
  halt := by simp [halted]

theorem stopExit_onlyUnbinds (s : State) : OnlyUnbinds s (stopExit s) := by
  unfold stopExit; split
  · exact recallOffer_onlyUnbinds _ s
  · exact recallOffer_onlyUnbinds _ s
  · exact .refl s
  · exact .refl s

theorem announce_onlyUnbinds (s : State) : OnlyUnbinds s (announce s) := by
  constructor <;> simp [halted]

theorem enterFaulted_sn (s : State) :
    (enterFaulted s).sn = { s.sn with service := .faulted, quiet := none } := by
  simp [enterFaulted, cancelQuiet]

theorem enterFaulted_onlyUnbinds (s : State) : OnlyUnbinds s (enterFaulted s) := by
  have driveOff : OnlyUnbinds s (cancelRunOn (setDrive .off { s with sn := { s.sn with service := .faulted } })) := by
    constructor <;> simp [halted]
  have cancelled (u : State) : OnlyUnbinds u (cancelQuiet u) := ⟨rfl, rfl, rfl, rfl, rfl, rfl⟩
  exact ((driveOff.trans (stopExit_onlyUnbinds _)).trans (cancelled _)).trans (announce_onlyUnbinds _)

/-! ## A detection of a fault (R14, R99, R153) -/

theorem latchFault_onlyUnbinds (k : FaultKind) (d : Byte) (t v : Word16) (s : State) :
    OnlyUnbinds s (latchFault k d t v s) := by
  have noticed (u : State) : OnlyUnbinds u (sendNotice (.fault k) d t v u) :=
    .of_frame (by simp) (by simp) (by simp) (by simp)
  have latched (fs : Faults) : OnlyUnbinds s { s with sn := { s.sn with faults := fs } } :=
    ⟨rfl, rfl, rfl, rfl, rfl, rfl⟩
  simp only [latchFault]; split
  · exact .refl s
  refine .trans ?_ (noticed _)
  split
  · exact (latched _).trans (enterFaulted_onlyUnbinds _)
  · exact latched _

/-- A kind that is latched stays as it is, and one that is not is latched with its fields. -/
theorem latchFault_faults (k : FaultKind) (d : Byte) (t v : Word16) (s : State) :
    (latchFault k d t v s).sn.faults = if (latched? s.sn.faults k).isSome then s.sn.faults
      else setLatched s.sn.faults k (some
        { detail := d, tag := t, value := v, renotice := some { start := s.tb, duration := 10000 } }) := by
  simp only [latchFault]; split
  · rfl
  · simp only [sendNotice_frame]
    split <;> simp [enterFaulted_sn, startTimer, noticeRepeatMs]

/-! # A sample completion

## The conversions (R96, R97) -/

theorem railCode_iff (c : AdcCode) : railCode c = true ↔ c.toNat ≤ 8 ∨ 4087 ≤ c.toNat := by
  simp [railCode]

theorem railCode_eq_false {c : AdcCode} (low : 8 < c.toNat) (high : c.toNat < 4087) : railCode c = false := by
  simp [railCode, low, high]

/-- A quotient by 4095 is the floor: the one number whose multiple is reached and whose successor's is not. -/
theorem div_4095_floor (n : Nat) : n / 4095 * 4095 ≤ n ∧ n < (n / 4095 + 1) * 4095 := by
  omega

theorem currentOf_rail {c : AdcCode} (h : railCode c = true) (span : Nat) : currentOf span c = span := by
  simp [currentOf, h]

theorem currentOf_good {c : AdcCode} (h : railCode c = false) (span : Nat) :
    currentOf span c = c.toNat * span / 4095 := by
  simp [currentOf, h]

theorem itemNat_of_value {c : Items} {i : Item} {v : Word16} (h : itemValue c i = some v) :
    itemNat c i = v.toNat := by
  simp [itemNat, h]

/-- Differences of temperatures are those of the items, which travel with 1,000 added (R157). -/
theorem itemTenths_sub (c : Items) (i j : Item) :
    itemTenths c i - itemTenths c j = (itemNat c i : Int) - (itemNat c j : Int) := by
  simp [itemTenths]

/-- The span endpoints in order give a temperature whose distance from T_lo is a quotient of natural numbers (R97). -/
theorem sampleTemperature_span {c : Items} {lo hi : Word16} (hlo : itemValue c .tLo = some lo)
    (hhi : itemValue c .tHi = some hi) (h : lo.toNat < hi.toNat) (probe : AdcCode) :
    sampleTemperature c probe
      = some ((lo.toNat : Int) - 1000 + ((probe.toNat * (hi.toNat - lo.toNat) / 4095 : Nat) : Int)) := by
  have span : ((hi.toNat - lo.toNat : Nat) : Int) = (hi.toNat : Int) - lo.toNat := Nat.cast_sub h.le
  simp [sampleTemperature, temperatureOf, itemTenths, itemNat_of_value hlo, itemNat_of_value hhi, hlo, hhi, h, span]

theorem sampleTemperature_none {c : Items}
    (h : itemValue c .tLo = none ∨ itemValue c .tHi = none ∨ itemNat c .tHi ≤ itemNat c .tLo) (probe : AdcCode) :
    sampleTemperature c probe = none := by
  rcases h with h | h | h
  · simp [sampleTemperature, h]
  · simp [sampleTemperature, h]
  · simp [sampleTemperature, Nat.not_lt.2 h]

/-! ## What the queue's records take from a sample (R98, R103, R104) -/

/-- What a sample does to a PENDING entry of the queue. -/
def probeEffect (probe : AdcCode) (s : State) : StageResult → StageResult :=
  if role s = .wash then
    if railCode probe then markFault
    else if halted s then id else addCredit (creditOf s.ss.running probe)
  else id

theorem changeQueue_id (s : State) : changeQueue (changePending id) s = s := by
  have same : changePending id = id := by funext r; simp [changePending]
  simp [changeQueue, same]

/-- A change of entries goes with the undoing of bindings, whichever comes first. -/
theorem OnlyUnbinds.changeEntries {s t : State} (h : OnlyUnbinds s t) (f : StageResult → StageResult) :
    OnlyUnbinds (changeQueue (changePending f) s) (changeQueue (changePending f) t) where
  records := by
    have commute (u : State) : (changeQueue (changePending f) u).zq.queue.map unbound
        = (u.zq.queue.map unbound).map (changePending f) := by
      simp [changeQueue, changePending, unbound]
    rw [commute, commute, h.records]
  expected := h.expected
  calls := h.calls
  neighbours := h.neighbours
  counts := h.counts
  halt := h.halt

theorem setFaultCount_onlyUnbinds (n : Nat) (s : State) : OnlyUnbinds s (setFaultCount n s) :=
  .of_frame rfl rfl rfl rfl

/-- A current that is judged changes DC's counts, and may be a detection of JAM (R62). -/
theorem judgeCurrent_cases (n : Nat) (s : State) : ∃ dc, judgeCurrent n s = { s with dc := dc }
    ∨ judgeCurrent n s = latchFault .jam 0 0 (BitVec.ofNat 16 n) { s with dc := dc } := by
  simp only [judgeCurrent]; split
  · exact ⟨s.dc, .inl rfl⟩
  split
  · exact ⟨_, .inl rfl⟩
  split
  · exact ⟨_, .inl rfl⟩
  split
  · exact ⟨_, .inl rfl⟩
  · exact ⟨_, .inr rfl⟩

theorem judgeCurrent_onlyUnbinds (n : Nat) (s : State) : OnlyUnbinds s (judgeCurrent n s) := by
  obtain ⟨dc, judged | jam⟩ := judgeCurrent_cases n s
  · exact judged ▸ .of_frame rfl rfl rfl rfl
  · rw [jam]
    exact .trans (t := { s with dc := dc }) (.of_frame rfl rfl rfl rfl) (latchFault_onlyUnbinds ..)

theorem faultedSample_onlyUnbinds (probe : AdcCode) (s : State) :
    OnlyUnbinds (changeQueue (changePending markFault) s) (faultedSample probe s) := by
  simp only [faultedSample]; split
  · exact (setFaultCount_onlyUnbinds _ _).trans (latchFault_onlyUnbinds ..)
  · exact setFaultCount_onlyUnbinds _ _

/-! ## The order of a sample completion (R95) -/

/-- The state in which the probe result is taken: the codes are converted, and DC has judged the current. -/
def converted (probe current : AdcCode) (s : State) : State :=
  judgeCurrent (currentOf (itemNat s.ss.running .iSpan) current) (convert probe current s)

theorem takeSample_eq (probe current : AdcCode) (s : State) :
    takeSample probe current s = if role s = .wash then
        if railCode probe then faultedSample probe (converted probe current s)
        else goodSample probe (converted probe current s)
      else converted probe current s := by
  have sameRole : role (converted probe current s) = role s := by simp [role, converted]
  rw [← sameRole]
  rfl

@[simp] theorem converted_frame (probe current : AdcCode) (s : State) :
    (converted probe current s).su = (convert probe current s).su
      ∧ (converted probe current s).ma = s.ma ∧ (converted probe current s).ss = s.ss
      ∧ (converted probe current s).tb = s.tb ∧ (converted probe current s).pending = s.pending := by
  simp [converted]

theorem converted_onlyUnbinds (probe current : AdcCode) (s : State) :
    OnlyUnbinds s (converted probe current s) :=
  .trans (t := convert probe current s) (.of_frame rfl rfl rfl rfl) (judgeCurrent_onlyUnbinds _ _)

/-- A good sample gives its credit in a node that is not halted, and none in one that is. -/
theorem goodSample_eq (probe : AdcCode) (s : State) :
    goodSample probe s = changeQueue (changePending
      (if halted s then id else addCredit (creditOf s.ss.running probe))) (setFaultCount 0 s) := by
  have sameHalt : halted (setFaultCount 0 s) = halted s := (setFaultCount_onlyUnbinds 0 s).halt
  simp only [goodSample, sameHalt]
  split
  · rw [changeQueue_id]
  · rfl

/-- A sample completion changes the PENDING entries of the queue, and may undo a binding. -/
theorem takeSample_onlyUnbinds (probe current : AdcCode) (s : State) :
    OnlyUnbinds (changeQueue (changePending (probeEffect probe s)) s) (takeSample probe current s) := by
  have before := converted_onlyUnbinds probe current s
  have setup : (converted probe current s).ss = s.ss := by simp
  rw [takeSample_eq, probeEffect]
  split
  · split
    · exact (before.changeEntries _).trans (faultedSample_onlyUnbinds probe _)
    · rw [goodSample_eq, before.halt, setup]
      exact (before.trans (setFaultCount_onlyUnbinds 0 _)).changeEntries _
  · rwa [changeQueue_id]

/-- No record joins or leaves, and of each only results and a bound call may change. -/
theorem takeSample_map {α : Type} {field : RackRecord → α} (hb : ∀ r, field (unbound r) = field r)
    (hf : ∀ f r, field (changePending f r) = field r) (probe current : AdcCode) (s : State) :
    (takeSample probe current s).zq.queue.map field = s.zq.queue.map field := by
  rw [(takeSample_onlyUnbinds probe current s).map_eq hb]
  simp [changeQueue, hf]

theorem takeSample_results (probe current : AdcCode) (s : State) :
    (takeSample probe current s).zq.queue.map (·.results) = s.zq.queue.map (fun r =>
      r.results.map fun e => if e.verdict = .pending then probeEffect probe s e else e) := by
  rw [(takeSample_onlyUnbinds probe current s).map_eq fun _ => rfl]
  simp [changeQueue, changePending]

@[simp] theorem takeSample_frame (probe current : AdcCode) (s : State) :
    (takeSample probe current s).ma = s.ma ∧ (takeSample probe current s).ss = s.ss
      ∧ (takeSample probe current s).tb = s.tb ∧ (takeSample probe current s).pending = s.pending := by
  rw [takeSample_eq]; (repeat' split) <;> simp

theorem faultedSample_su (probe : AdcCode) (s : State) :
    (faultedSample probe s).su = { s.su with faultCount := min (s.su.faultCount + 1) 3 } := by
  simp only [faultedSample]; split <;> simp [setFaultCount]

theorem goodSample_su (probe : AdcCode) (s : State) :
    (goodSample probe s).su = { s.su with faultCount := 0 } := by
  rw [goodSample_eq]; rfl

/-- SU after a sample: its last values and its period are new, and in a WASH zone the fault count follows the probe code
(R95, R98). -/
theorem takeSample_su (probe current : AdcCode) (s : State) :
    (takeSample probe current s).su = { (convert probe current s).su with
      faultCount := if role s = .wash then if railCode probe then min (s.su.faultCount + 1) 3 else 0
        else s.su.faultCount } := by
  rw [takeSample_eq]; split
  · split
    · rw [faultedSample_su, (converted_frame ..).1]; rfl
    · rw [goodSample_su, (converted_frame ..).1]
  · rw [(converted_frame ..).1]; rfl

/-! ## PROBE (R99) -/

/-- The current has no bearing on PROBE. -/
theorem judgeCurrent_probe (n : Nat) (s : State) : (judgeCurrent n s).sn.faults.probe = s.sn.faults.probe := by
  obtain ⟨dc, judged | jam⟩ := judgeCurrent_cases n s
  · rw [judged]
  · rw [jam, latchFault_faults]
    split <;> rfl

theorem converted_probe (probe current : AdcCode) (s : State) :
    (converted probe current s).sn.faults.probe = s.sn.faults.probe :=
  judgeCurrent_probe _ _

/-- The third faulted sample in a row and every one after it is a detection. -/
theorem faultedSample_probe (probe : AdcCode) (s : State) :
    (faultedSample probe s).sn.faults.probe = if 2 ≤ s.su.faultCount ∧ s.sn.faults.probe = none then
        some { detail := 0, tag := 0, value := probe.setWidth 16,
               renotice := some { start := s.tb, duration := 10000 } }
      else s.sn.faults.probe := by
  have third : min (s.su.faultCount + 1) 3 = 3 ↔ 2 ≤ s.su.faultCount := by omega
  simp only [faultedSample, third]
  by_cases count : 2 ≤ s.su.faultCount
  · rw [if_pos count, latchFault_faults]
    cases fresh : s.sn.faults.probe <;> simp [latched?, setLatched, fresh, count]
  · simp [count]

theorem takeSample_probe_faulted {probe : AdcCode} {s : State} (hw : role s = .wash) (hr : railCode probe = true)
    (current : AdcCode) :
    (takeSample probe current s).sn.faults.probe = if 2 ≤ s.su.faultCount ∧ s.sn.faults.probe = none then
        some { detail := 0, tag := 0, value := probe.setWidth 16,
               renotice := some { start := s.tb, duration := 10000 } }
      else s.sn.faults.probe := by
  have count : (converted probe current s).su.faultCount = s.su.faultCount := by simp [convert]
  have now : (converted probe current s).tb = s.tb := by simp
  rw [takeSample_eq, if_pos hw, if_pos hr, faultedSample_probe, converted_probe, count, now]

theorem takeSample_probe_good {probe : AdcCode} {s : State} (hw : role s = .wash) (hr : railCode probe = false)
    (current : AdcCode) : (takeSample probe current s).sn.faults.probe = s.sn.faults.probe := by
  rw [takeSample_eq, if_pos hw, if_neg (by simp [hr])]
  simpa using converted_probe probe current s

/-! ## The two statements -/

theorem exec_sampleCompletion {m : Timer} {s : State} (ha : Awake s) (hp : s.su.period = some m)
    (hm : m.due s.tb = true) (probe current : AdcCode) :
    exec (.sampleCompletion probe current) s = .next (takeSample probe current s) := by
  refine congrArg Host.Outcome.next ?_
  rw [whileRunning_awake ha, onExpiry_due hp hm]

/-- Settles O20: SU's last values are the two conversions, and of the queue only entries and a binding may change. -/
theorem sampleReplacesTheLastValues : Obligations.SampleReplacesTheLastValues := by
  intro probe current m s ha hp hm
  have su := takeSample_su probe current s
  have kept := takeSample_onlyUnbinds probe current s
  obtain ⟨ma, ss, tb, pending⟩ := takeSample_frame probe current s
  have temperature : (takeSample probe current s).su.lastTemperature = sampleTemperature s.ss.running probe := by
    rw [su]; rfl
  refine ⟨_, exec_sampleCompletion ha hp hm probe current, by rw [su]; rfl, by rw [su]; rfl, by rw [su]; rfl,
    fun lo hi hlo hhi h => ?_, fun h => ?_, ?_, kept.expected,
    takeSample_map (fun _ => rfl) (fun _ _ => rfl) .., takeSample_map (fun _ => rfl) (fun _ _ => rfl) ..,
    kept.calls, ma, ss, kept.neighbours, kept.counts, tb, pending⟩
  · exact ⟨_, temperature.trans (sampleTemperature_span hlo hhi h probe), div_4095_floor _⟩
  · exact temperature.trans (sampleTemperature_none h probe)
  · refine ⟨currentOf (itemNat s.ss.running .iSpan) current, by rw [su]; rfl, fun rail => ?_, fun low high => ?_⟩
    · exact currentOf_rail ((railCode_iff current).2 rail) _
    · rw [currentOf_good (railCode_eq_false low high)]
      exact div_4095_floor _

/-- Settles O22: the probe code decides between the fault rule and the credit rule, and neither sees what the current of
the sample did before it. -/
theorem rinseCreditOfASample : Obligations.RinseCreditOfASample := by
  intro probe current m s hu hw hp hm n temperature tMin tFull weight inc
  have results := takeSample_results probe current s
  have credit : creditOf s.ss.running probe = inc := by
    rw [creditOf, temperatureOf, itemTenths_sub]
    rfl
  refine ⟨_, exec_sampleCompletion hu.1 hp hm probe current, takeSample_map (fun _ => rfl) (fun _ _ => rfl) ..,
    takeSample_map (fun _ => rfl) (fun _ _ => rfl) .., (takeSample_onlyUnbinds probe current s).expected,
    fun rail => ?_, fun low high => ?_⟩
  · have faulted : railCode probe = true := (railCode_iff probe).2 rail
    have effect : probeEffect probe s = markFault := by simp [probeEffect, hw, faulted]
    have latch := takeSample_probe_faulted hw faulted current
    rw [effect] at results
    refine ⟨by simp [takeSample_su, hw, faulted], results, fun count fresh => ?_, fun quiet => ?_⟩
    · rw [latch, if_pos ⟨count, fresh⟩]
    · rw [latch, if_neg fun ⟨count, fresh⟩ => quiet.elim (by omega) (· fresh)]
  · have good : railCode probe = false := railCode_eq_false low high
    refine ⟨by simp [takeSample_su, hw, good], takeSample_probe_good hw good current,
      fun halt => ?_, fun halt => ?_⟩
    · have effect : probeEffect probe s = id := by simp [probeEffect, hw, good, halt]
      simpa [effect] using results
    · have effect : probeEffect probe s = addCredit inc := by simp [probeEffect, hw, good, halt, credit]
      rw [effect] at results
      exact results

end Sys2Proof.WashProofs
end

section
/-! Sorting, rewash and the unloading tables (chapter 7): the proofs. -/

namespace Sys2Proof.SortProofs
open Sys2Proof.Machine

/-! # A judgement stands while its head waits

## SL before and after an event (R109, R112)

Nothing but the leave of the head and a reset ends a judgement, and nothing but its application changes one. Most
operations leave SL as it stands, so the relation is one between the two values of SL: the frame rule of an operation
then closes its case. -/

/-- A judgement that SL holds before, SL holds after, with its outcome and its outlet, and applied if it was applied. -/
structure JudgementStands (before after : SortLogic) : Prop where
  held : ∀ j, before.judgement = some j →
    ∃ applied, after.judgement = some { j with applied := applied } ∧ (j.applied = true → applied = true)

@[simp] theorem JudgementStands.refl (sl : SortLogic) : JudgementStands sl sl where
  held j hj := ⟨j.applied, hj, id⟩

theorem JudgementStands.trans {a b c : SortLogic} (h : JudgementStands a b) (h' : JudgementStands b c) :
    JudgementStands a c where
  held j hj := by
    obtain ⟨first, hb, kept⟩ := h.held j hj
    obtain ⟨second, hc, kept'⟩ := h'.held _ hb
    exact ⟨second, hc, kept' ∘ kept⟩

/-- The judgement formed for a head is one that SL did not hold before (R109). -/
theorem formJudgement_stands (s : State) : JudgementStands s.sl (formJudgement s).sl := by
  unfold formJudgement; split
  · rename_i unjudged
    exact ⟨fun j hj => by rw [unjudged] at hj; cases hj⟩
  · exact .refl _

theorem applyJudgement_stands (s : State) : JudgementStands s.sl (applyJudgement s).sl := by
  refine ⟨fun j hj => ?_⟩
  cases hq : s.zq.queue with
  | nil => exact ⟨j.applied, by simpa [applyJudgement, hq] using hj, id⟩
  | cons head rest =>
    cases ha : j.applied with
    | true => exact ⟨true, by rw [ExitProofs.applyJudgement_applied hj ha, hj, ← ha], id⟩
    | false =>
      obtain ⟨-, judged, -⟩ := ExitProofs.applyJudgement_fresh hq hj ha
      exact ⟨true, judged, fun _ => rfl⟩

theorem prepareHead_stands (s : State) : JudgementStands s.sl (prepareHead s).sl := by
  unfold prepareHead
  cases role s with
  | sort => exact applyJudgement_stands s
  | feed | merge | load | wash | unload | spur => simp

theorem testOffer_stands (s : State) : JudgementStands s.sl (testOffer s).sl := by
  unfold testOffer; split
  · split
    · exact .refl _
    · rw [(ExitProofs.makeOffer_prepared ..).1]
      exact prepareHead_stands s
  · exact .refl _

/-- After SL has judged a head come to the exit, the other tests of an event leave the judgement standing. -/
theorem settle_stands_formed {s : State} (h : configured s = true) :
    JudgementStands (formJudgement s).sl (settle s).sl := by
  simpa [settle, h] using testOffer_stands (testNeed (testQuiet (formJudgement s)))

/-- The tests of an event leave standing what the event left standing. -/
@[simp] theorem JudgementStands.settle {before : SortLogic} {s : State} (h : JudgementStands before s.sl) :
    JudgementStands before (settle s).sl := by
  cases hc : configured s with
  | false => rwa [settle_unconfigured hc]
  | true => exact (h.trans (formJudgement_stands s)).trans (settle_stands_formed hc)

/-! ## Operations that leave SL as it stands -/

@[simp] theorem changeTerms_sl {change : State → State} (h : ∀ s, (change s).sl = s.sl) (s : State) :
    (changeTerms change s).sl = s.sl := by
  simp only [changeTerms]; (repeat' split) <;> simp [h]

@[simp] theorem setEntryEye_sl (inlet : Inlet) (b : Bool) (s : State) : (setEntryEye inlet b s).sl = s.sl := by
  cases inlet <;> rfl

@[simp] theorem setExitEye_sl (b : Bool) (s : State) : (setExitEye b s).sl = s.sl := rfl

@[simp] theorem rackAtInlet_sl (inlet : Inlet) (s : State) : (rackAtInlet inlet s).sl = s.sl := by
  unfold rackAtInlet; split
  · simp only [overfull]; split <;> simp
  split
  · unfold arrive; split <;> simp
  · simp

@[simp] theorem pressEmpty_sl (s : State) : (pressEmpty s).sl = s.sl := by
  unfold pressEmpty; (repeat' split) <;> simp

@[simp] theorem applyRead_sl (value : Word16) (s : State) : (applyRead value s).sl = s.sl := by
  unfold applyRead; split
  · rfl
  · simp only []; split <;> simp

@[simp] theorem sendStop_sl (s : State) : (sendStop s).sl = s.sl := by simp [sendStop]

@[simp] theorem pressEstop_sl (s : State) : (pressEstop s).sl = s.sl := by simp [pressEstop]

@[simp] theorem releaseEstop_sl (s : State) : (releaseEstop s).sl = s.sl := by simp [releaseEstop]

@[simp] theorem repeatNotice_sl (k : FaultKind) (f : LatchedFault) (s : State) :
    (repeatNotice k f s).sl = s.sl := by simp [repeatNotice]

@[simp] theorem releaseStuck_sl (s : State) : (releaseStuck s).sl = s.sl := by simp [releaseStuck]

@[simp] theorem loseNeighbour_sl (z : Addr) (s : State) : (loseNeighbour z s).sl = s.sl := by simp [loseNeighbour]

@[simp] theorem repeatCall_sl (e : CallEntry) (s : State) : (repeatCall e s).sl = s.sl := by simp [repeatCall]

@[simp] theorem completeWrite_sl (w : WriteCycle) (s : State) : (completeWrite w s).sl = s.sl := by
  simp [completeWrite]

@[simp] theorem takeSample_sl (probe current : AdcCode) (s : State) : (takeSample probe current s).sl = s.sl := by
  simp only [takeSample]; (repeat' split) <;> simp

@[simp] theorem addStop_sl (a : Addr) (s : State) : (addStop a s).sl = s.sl := by
  unfold addStop; split <;> rfl

@[simp] theorem removeStop_sl (a : Addr) (s : State) : (removeStop a s).sl = s.sl := by
  unfold removeStop; (repeat' split) <;> rfl

@[simp] theorem testDuplicate_sl (f : Frame) (s : State) : (testDuplicate f s).sl = s.sl := by
  unfold testDuplicate; split <;> simp

@[simp] theorem decideWrite_sl (source target : Addr) (item : Byte) (value : Word16) (s : State) :
    (decideWrite source target item value s).sl = s.sl := by
  unfold decideWrite; split <;> simp

theorem takeSetup_sl {effect : State → State} {s : State} (h : (effect s).sl = s.sl) (source : Addr) :
    (takeSetup source effect s).sl = s.sl := by
  unfold takeSetup; split <;> simp [h]

/-! ## The frames a node takes, but for an ASK -/

theorem takePass_stands (source : Addr) (body : List Byte) (s : State) :
    JudgementStands s.sl (takePass source body s).sl := by
  unfold takePass; split <;> simp

theorem takeRecall_stands (source : Addr) (serial : Byte) (s : State) :
    JudgementStands s.sl (takeRecall source serial s).sl := by
  unfold takeRecall; split <;> simp

theorem takeState_stands (source : Addr) (b : StateBody) (s : State) :
    JudgementStands s.sl (takeState source b s).sl := by
  unfold takeState; split <;> simp

theorem takeCall_stands (station serial : Byte) (s : State) :
    JudgementStands s.sl (takeCall station serial s).sl := by
  unfold takeCall; split <;> simp

theorem takeSettled_stands (station serial : Byte) (s : State) :
    JudgementStands s.sl (takeSettled station serial s).sl := by
  unfold takeSettled; split
  · exact .refl _
  split <;> simp

/-! ## Resets (R161)

A REMOTE reset may follow an ASK RESTART, or the end of its REPLY. It leaves no head for a judgement to wait with. -/

/-- Unless no rack is left in the queue, what SL judged before stands. -/
structure StandsWhileWaiting (before : SortLogic) (t : State) : Prop where
  stands : t.zq.queue ≠ [] → JudgementStands before t.sl

theorem JudgementStands.whileWaiting {before : SortLogic} {t : State} (h : JudgementStands before t.sl) :
    StandsWhileWaiting before t where
  stands _ := h

theorem StandsWhileWaiting.of_sl {before : SortLogic} {t : State} (h : t.sl = before) :
    StandsWhileWaiting before t :=
  JudgementStands.whileWaiting (by simp [h])

theorem resetNode_standsWhileWaiting (before : SortLogic) (cause : ResetCause) (s : State) :
    StandsWhileWaiting before (resetNode cause s) := by
  refine ⟨fun waiting => ?_⟩
  rw [(RackProofs.resetNode_blocks cause s).1] at waiting
  exact absurd rfl waiting

theorem takeAsk_standsWhileWaiting (source target : Addr) (topic index : Byte) (s : State) :
    StandsWhileWaiting s.sl (takeAsk source target topic index s) := by
  simp only [takeAsk]; split
  · simp only [replyToAsk]; split
    · exact resetNode_standsWhileWaiting ..
    · exact .of_sl (by simp)
  · exact .of_sl (by simp)

/-! ## Frames received (R148 to R150) -/

theorem deliver_standsWhileWaiting (f : Frame) (s : State) : StandsWhileWaiting s.sl (deliver f s) := by
  unfold deliver; split
  · exact (JudgementStands.settle (by simp)).whileWaiting
  · exact (JudgementStands.settle (by simp)).whileWaiting
  · exact (takePass_stands ..).whileWaiting
  · exact (takeRecall_stands ..).whileWaiting
  · exact (takeSettled_stands ..).whileWaiting
  · exact (takeSettled_stands ..).whileWaiting
  · exact (takeCall_stands ..).whileWaiting
  · exact (takeState_stands ..).whileWaiting
  · exact takeAsk_standsWhileWaiting ..
  · exact JudgementStands.whileWaiting (by simp [takeClear])
  · exact .of_sl (takeSetup_sl (effect := enableWrite) rfl _)
  · exact .of_sl (takeSetup_sl (decideWrite_sl ..) _)
  · exact .of_sl (takeSetup_sl (by simp) _)
  all_goals exact .of_sl rfl

theorem deliverAtSetup_standsWhileWaiting (f : Frame) (s : State) : StandsWhileWaiting s.sl (deliverAtSetup f s) := by
  unfold deliverAtSetup; split
  · exact deliver_standsWhileWaiting f s
  · exact .of_sl rfl

theorem takeGood_standsWhileWaiting (f : Frame) (s : State) : StandsWhileWaiting s.sl (takeGood f s) := by
  unfold takeGood; split
  · exact .of_sl (by split <;> simp)
  split
  · exact deliver_standsWhileWaiting f s
  split
  · exact deliverAtSetup_standsWhileWaiting f s
  · exact .of_sl rfl

theorem acceptGood_standsWhileWaiting (f : Frame) (s : State) : StandsWhileWaiting s.sl (acceptGood f s) := by
  unfold acceptGood; split
  · exact .of_sl rfl
  split
  · exact testDuplicate_sl f s ▸ takeGood_standsWhileWaiting f (testDuplicate f s)
  split
  · exact deliverAtSetup_standsWhileWaiting f s
  · exact .of_sl rfl

theorem receiveFrame_standsWhileWaiting (f : Frame) (s : State) : StandsWhileWaiting s.sl (receiveFrame f s) := by
  unfold receiveFrame; split
  · exact .of_sl rfl
  split
  · exact acceptGood_standsWhileWaiting f (frameHeard s)
  · exact .of_sl (by simp)

theorem receiveLine_standsWhileWaiting (f : LineFrame) (s : State) : StandsWhileWaiting s.sl (receiveLine f s) := by
  unfold receiveLine; split
  · exact .of_sl rfl
  split
  · exact .of_sl (by simp)
  · exact receiveFrame_standsWhileWaiting f.frame s

/-! ## Frames sent (R145 to R147, R156) -/

theorem tellOwner_standsWhileWaiting (outcome : SendOutcome) (f : Frame) {before : SortLogic} {s : State}
    (h : s.sl = before) : StandsWhileWaiting before (tellOwner outcome f s) := by
  unfold tellOwner; split
  · exact resetNode_standsWhileWaiting ..
  split
  · refine (JudgementStands.settle ?_).whileWaiting
    cases outcome <;> simp [h]
  · exact .of_sl h

theorem failFrame_standsWhileWaiting (n : Nat) (e : TxEntry) (s : State) :
    StandsWhileWaiting s.sl (failFrame n e s) := by
  unfold failFrame
  refine tellOwner_standsWhileWaiting _ _ ?_
  split <;> simp

theorem failAttempt_standsWhileWaiting (n : Nat) (e : TxEntry) (s : State) :
    StandsWhileWaiting s.sl (failAttempt n e s) := by
  unfold failAttempt; split
  · exact .of_sl (by simp)
  split
  · exact failFrame_standsWhileWaiting n e s
  · exact .of_sl (by simp)

/-! ## Every command -/

/-- What a command answers leaves SL's judgement standing, unless no rack is left in the queue. -/
def AnswerStands (s : State) (a : Answer) : Prop := ∀ t, a = .next t → StandsWhileWaiting s.sl t

theorem answerStands_next {s t : State} (h : StandsWhileWaiting s.sl t) : AnswerStands s (.next t) := by
  rintro _ ⟨⟩
  exact h

theorem answerStands_running {f : State → State} {s : State} (h : StandsWhileWaiting s.sl (f s)) :
    AnswerStands s (.next (whileRunning f s)) := by
  refine answerStands_next ?_
  unfold whileRunning; split
  · exact .of_sl rfl
  · exact h

theorem answerStands_input {f : State → State} {s : State} (h : JudgementStands s.sl (f s).sl) :
    AnswerStands s (.next (whileRunning f s)) :=
  answerStands_running h.whileWaiting

/-- An expiry leaves standing what its effect does, whenever it is taken. -/
theorem onExpiry_stands (o : Option Timer) {f : State → State} (h : ∀ u, JudgementStands u.sl (f u).sl) (s : State) :
    JudgementStands s.sl (onExpiry o f s).sl := by
  unfold onExpiry; split
  · exact .refl _
  · rename_i m
    simpa using h (reachExpiry m s)

theorem answerStands_expiry (o : Option Timer) {f : State → State} (h : ∀ u, JudgementStands u.sl (f u).sl)
    (s : State) : AnswerStands s (.next (whileRunning (fun s => onExpiry o f s) s)) :=
  answerStands_input (onExpiry_stands o h s)

theorem execStartHoldExpiry_stands (s : State) : AnswerStands s (execStartHoldExpiry s) := by
  refine answerStands_expiry _ (fun u => JudgementStands.settle ?_) s
  split <;> simp [startSampling]

theorem execSelfCheckError_stands (s : State) : AnswerStands s (execSelfCheckError s) := by
  refine answerStands_running ?_
  split
  · exact .of_sl rfl
  · exact failAttempt_standsWhileWaiting _ _ (sendAbort s)

theorem execReplySlotRead_stands (ack hold : Bool) (s : State) : AnswerStands s (execReplySlotRead ack hold s) := by
  refine answerStands_running ?_
  split
  · exact .of_sl rfl
  split
  · exact .of_sl rfl
  split
  · exact tellOwner_standsWhileWaiting _ _ (by simp)
  split
  · exact tellOwner_standsWhileWaiting _ _ (by simp)
  · exact failAttempt_standsWhileWaiting _ _ s

/-- Every command but a clear exit eye, which takes the head from the exit (R39). -/
theorem exec_answerStands {c : Instr} (hc : c ≠ .exitEyeClear) (s : State) : AnswerStands s (exec c s) := by
  cases c with
  | exitEyeClear => exact absurd rfl hc
  | powerReset | pinReset => exact answerStands_next (resetNode_standsWhileWaiting ..)
  | resetnAsserted => exact answerStands_next (.of_sl rfl)
  | entryEyeClear | estopActive | setupButtonPress | lineReleased =>
    exact answerStands_input (by simp)
  | entryEyeBlocked inlet =>
    refine answerStands_input ?_
    simp only []; split <;> simp
  | rackFullPress | rackEmptyPress | stationOpened | stationClosed | tagRead | estopReleased | lineBusy
  | arbitrationLost | insertionError | abortMark =>
    refine answerStands_input ?_
    split <;> simp [abandonFrame]
  | exitEyeBlocked =>
    refine answerStands_input (JudgementStands.settle ?_)
    split <;> simp
  | frameSendStart | broadcastSent =>
    refine answerStands_input ?_
    (repeat' split) <;> simp
  | startHoldExpiry => exact execStartHoldExpiry_stands s
  | estopReleaseExpiry | stopRepeatExpiry | tagReadWindowExpiry | holdOffExpiry | runOnExpiry | statePeriodExpiry
  | sampleCompletion | setupWindowExpiry =>
    exact answerStands_expiry _ (fun u => by simp) s
  | quietTimerExpiry | diverterTravelExpiry | releaseLimitExpiry =>
    refine answerStands_input ?_
    split
    · exact onExpiry_stands _ (fun u => by simp) s
    · exact .refl _
  | arrivalWindowExpiry | neighbourSilenceExpiry | noticeRepeatExpiry | writeCycleCompletion =>
    refine answerStands_input ?_
    split
    · exact .refl _
    · exact onExpiry_stands _ (fun u => by simp) s
  | callRepeatExpiry | callExpiry =>
    refine answerStands_input ?_
    split
    · exact onExpiry_stands _ (fun u => by simp [expireCall]) s
    · exact .refl _
  | selfCheckError => exact execSelfCheckError_stands s
  | replySlotRead ack hold => exact execReplySlotRead_stands ack hold s
  | receiveError f => exact answerStands_running (receiveLine_standsWhileWaiting f s)
  | frameIgnored | stopReceived | goReceived | passReceived | recallReceived | stateReceived | callReceived
  | answerReceived | declineReceived | noticeReceived | replyReceived | clear | askStatus | askCounts | askQueue
  | askExpected | askCalls | askNeighbour | askRunning | askRestart | setupEnable | setupWrite | setupRead
  | askTopicOutsideRange => exact answerStands_running (receiveFrame_standsWhileWaiting _ s)

/-- Settles O47: every command but a clear exit eye leaves SL as it stands, applies its judgement, or is a reset. -/
theorem judgementStandsWhileTheHeadWaits : Obligations.JudgementStandsWhileTheHeadWaits := by
  intro c j s t ht hc waiting hj
  exact ((exec_answerStands hc s t ht).stands waiting).held j hj

/-! # The judgement of the head

## Pass or fail, and the outlet named (R110, R111) -/

theorem mem_requiredStageList (c : Items) (k : Nat) :
    k ∈ requiredStageList c ↔ (1 ≤ k ∧ k ≤ 4) ∧ (itemNat c .requiredStages).testBit (k - 1) = true := by
  have range : k ∈ [1, 2, 3, 4] ↔ 1 ≤ k ∧ k ≤ 4 := by
    simp only [List.mem_cons, List.not_mem_nil, or_false]; omega
  rw [requiredStageList, List.mem_filter, range]

theorem passesSort_iff (required : List Nat) (r : RackRecord) :
    passesSort required r = true
      ↔ r.content ≠ .unknown ∧ ∀ k ∈ required, ∃ e ∈ r.results, e.stage = k ∧ e.verdict = .met := by
  simp [passesSort]

theorem judge_passes_iff (c : Items) (maximum : Nat) (r : RackRecord) :
    (judge (requiredStageList c) maximum r).outcome = .pass
      ↔ r.content ≠ .unknown ∧ ∀ k, 1 ≤ k → k ≤ 4 → (itemNat c .requiredStages).testBit (k - 1) = true →
          ∃ e ∈ r.results, e.stage = k ∧ e.verdict = .met := by
  have outcome : (judge (requiredStageList c) maximum r).outcome = .pass
      ↔ passesSort (requiredStageList c) r = true := by
    unfold judge; (repeat' split) <;> simp_all
  rw [outcome, passesSort_iff]
  simp only [mem_requiredStageList, and_imp]

theorem judge_outlet (required : List Nat) (maximum : Nat) (r : RackRecord) :
    let j := judge required maximum r
    (j.outcome = .pass → j.outlet = .one)
      ∧ (j.outcome = .fail → min (r.washes + 1) 3 < maximum → j.outlet = .two)
      ∧ (j.outcome = .fail → maximum ≤ min (r.washes + 1) 3 → j.outlet = .three) := by
  unfold judge; split
  · simp
  split
  · rename_i again
    simp [Nat.not_le.2 again]
  · rename_i spent
    simp [spent]

/-! ## The head as it comes to the exit (R109) -/

theorem formJudgement_formed {s : State} {head : RackRecord} {rest : List RackRecord}
    (hq : s.zq.queue = head :: rest) (hn : s.sl.judgement = none) (hr : role s = .sort) (hx : s.zq.eyeX = true) :
    (formJudgement s).sl.judgement
      = some (judge (requiredStageList s.ss.running) (itemNat s.ss.running .maximumPasses) head) := by
  simp [formJudgement, hq, hn, hr, hx]

/-- A rack already in the queue comes to the exit, and the tests of an event follow (R27). -/
theorem exec_exitEyeBlocked {s : State} (h : InUse s) (hq : s.zq.queue ≠ []) :
    exec .exitEyeBlocked s = .next (settle (setExitEye true s)) := by
  refine congrArg Host.Outcome.next ?_
  rw [whileRunning_awake h.1]
  simp [setExitEye, hq]

/-- Settles O46: the tests of the event form the head's judgement, and an offer that follows at once leaves it standing. -/
theorem headIsJudgedAtTheSort : Obligations.HeadIsJudgedAtTheSort := by
  intro s head rest h hr hq hn
  have formed := formJudgement_formed (s := setExitEye true s) hq hn hr rfl
  obtain ⟨applied, stands, -⟩ := (settle_stands_formed (s := setExitEye true s) h.2).held _ formed
  exact ⟨_, _, exec_exitEyeBlocked h (by simp [hq]), stands, judge_passes_iff .., judge_outlet ..⟩

end Sys2Proof.SortProofs
end

section
/-! The return loop and station calls (chapter 8): the proofs. -/

namespace Sys2Proof.CallProofs
open Sys2Proof.Machine
open Sys2Proof.RackProofs

/-! # Every step keeps the call list within its bounds

## The keys of a call list (R122)

The bounds of R122 speak of keys alone, so a repeat or a refresh that gives an entry a new timer keeps them. -/

/-- The keys of the call list, oldest first. -/
def callKeys (cl : CallList) : List CallKey := cl.calls.map (·.key)

/-- R122's bounds on the keys of a call list. -/
structure KeysOk (keys : List CallKey) : Prop where
  room : keys.length ≤ 24
  distinct : keys.Nodup
  few : ∀ k ∈ keys, keys.countP (fun x => x.station == k.station) ≤ 3

theorem callKeys_countP (cl : CallList) (st : Station) :
    (callKeys cl).countP (fun x => x.station == st) = cl.calls.countP (fun e => e.key.station == st) := by
  rw [callKeys, List.countP_map]; rfl

theorem callsOk_iff (s : State) : CallsOk s ↔ KeysOk (callKeys s.cl) := by
  have few : (∀ k ∈ callKeys s.cl, (callKeys s.cl).countP (fun x => x.station == k.station) ≤ 3)
      ↔ ∀ e ∈ s.cl.calls, s.cl.calls.countP (fun x => x.key.station == e.key.station) ≤ 3 := by
    simp only [callKeys_countP]
    simp [callKeys]
  constructor
  · rintro ⟨hr, hd, hf⟩
    exact ⟨by simpa [callKeys] using hr, hd, few.2 hf⟩
  · rintro ⟨hr, hd, hf⟩
    exact ⟨by simpa [callKeys] using hr, hd, few.1 hf⟩

theorem keysOk_nil : KeysOk [] := ⟨by simp, by simp, by simp⟩

/-- Calls that leave the list break no bound. -/
theorem KeysOk.sublist {keys keys' : List CallKey} (h : KeysOk keys) (hs : keys'.Sublist keys) : KeysOk keys' where
  room := hs.length_le.trans h.room
  distinct := h.distinct.sublist hs
  few k hk := (hs.countP_le).trans (h.few k (hs.subset hk))

/-- A new key joins at the tail while the list has room for it and for its station. -/
theorem KeysOk.snoc {keys : List CallKey} {k : CallKey} (h : KeysOk keys) (hk : k ∉ keys) (room : keys.length < 24)
    (few : keys.countP (fun x => x.station == k.station) < 3) : KeysOk (keys ++ [k]) where
  room := by simp only [List.length_append, List.length_singleton]; omega
  distinct := by simpa [List.nodup_append] using ⟨h.distinct, fun x hx he => hk (he ▸ hx)⟩
  few x hx := by
    rw [List.countP_append, List.countP_singleton]
    by_cases same : x.station = k.station
    · rw [same]; split <;> omega
    · have old : x ∈ keys := by
        rcases List.mem_append.1 hx with hx | hx
        · exact hx
        · exact absurd (congrArg CallKey.station (List.mem_singleton.1 hx)) same
      have := h.few x old
      simpa [Ne.symm same] using this

/-! ## The next call serial (R128) -/

/-- The first serial after the last one that no call held has. -/
def NextSerial (held : List CallEntry) (last serial : Byte) : Prop :=
  ∃ d, 1 ≤ d ∧ serial = last + BitVec.ofNat 8 d ∧ (∀ x ∈ held, x.key.serial ≠ serial)
    ∧ ∀ j, 1 ≤ j → j < d → ∃ x ∈ held, x.key.serial = last + BitVec.ofNat 8 j

theorem add_ofNat_succ (last : Byte) (j : Nat) :
    last + 1 + BitVec.ofNat 8 j = last + BitVec.ofNat 8 (j + 1) := by
  rw [BitVec.add_assoc, BitVec.ofNat_add]
  congr 1
  exact BitVec.add_comm ..

/-- The search passes over the serials of calls, and gives up after as many as it was told to try. -/
theorem nextCallSerial_search (calls : List CallEntry) (n : Nat) (last : Byte) :
    ∃ d, 1 ≤ d ∧ d ≤ n + 1 ∧ nextCallSerial calls n last = last + BitVec.ofNat 8 d
      ∧ (d ≤ n → ∀ x ∈ calls, x.key.serial ≠ last + BitVec.ofNat 8 d)
      ∧ ∀ j, 1 ≤ j → j < d → ∃ x ∈ calls, x.key.serial = last + BitVec.ofNat 8 j := by
  induction n generalizing last with
  | zero => exact ⟨1, le_rfl, le_rfl, rfl, by omega, by omega⟩
  | succ n ih =>
    by_cases taken : ∃ x ∈ calls, x.key.serial = last + 1
    · obtain ⟨d, h1, hn, found, free, passed⟩ := ih (last + 1)
      simp only [add_ofNat_succ] at found free passed
      refine ⟨d + 1, by omega, by omega, ?_, fun hd => free (by omega), fun j hj hjd => ?_⟩
      · rw [nextCallSerial, if_pos (by simpa using taken), found]
      · obtain rfl | ⟨i, rfl⟩ : j = 1 ∨ ∃ i, j = i + 1 + 1 := by
          rcases j with _ | _ | i
          · omega
          · exact .inl rfl
          · exact .inr ⟨i, rfl⟩
        · exact taken
        · exact passed (i + 1) (by omega) (by omega)
    · refine ⟨1, le_rfl, by omega, ?_, fun _ x hx he => taken ⟨x, hx, he⟩, by omega⟩
      rw [nextCallSerial, if_neg (by simpa using taken)]
      rfl

/-- The serials after the last one, before they come round again. -/
theorem serials_nodup (last : Byte) {n : Nat} (h : n ≤ 256) :
    ((List.range n).map fun j => last + BitVec.ofNat 8 (j + 1)).Nodup := by
  refine List.Nodup.map_on (fun i hi j hj he => ?_) List.nodup_range
  have hij := congrArg BitVec.toNat ((BitVec.add_right_inj last).1 he)
  simp only [List.mem_range, BitVec.toNat_ofNat] at hi hj hij
  omega

/-- With fewer than 256 calls the search finds a serial that none of them has: as many serials as there are calls cannot
all be taken and one more as well. -/
theorem nextCallSerial_next {calls : List CallEntry} (h : calls.length < 256) (last : Byte) :
    NextSerial calls last (nextCallSerial calls calls.length last) := by
  obtain ⟨d, h1, hn, found, free, passed⟩ := nextCallSerial_search calls calls.length last
  refine ⟨d, h1, found, ?_, passed⟩
  rw [found]
  by_cases hd : d ≤ calls.length
  · exact free hd
  · intro x hx he
    have all : ((List.range d).map fun j => last + BitVec.ofNat 8 (j + 1)) ⊆ calls.map (·.key.serial) := by
      intro b hb
      obtain ⟨j, hj, rfl⟩ := List.mem_map.1 hb
      rw [List.mem_range] at hj
      by_cases last : j + 1 = d
      · exact List.mem_map.2 ⟨x, hx, by rw [he, last]⟩
      · obtain ⟨y, hy, hs⟩ := passed (j + 1) (by omega) (by omega)
        exact List.mem_map.2 ⟨y, hy, hs⟩
    have := (List.subperm_of_subset (serials_nodup last (by omega)) all).length_le
    simp only [List.length_map, List.length_range] at this
    omega

/-! ## What an event does to the call list

`Thins s t` says that the setup values and the station's switch stand and that no call has joined the list: what CL
needs of an event before the tests evaluate the need again. `Rests s t` says as well that the sum of R128 is the same, so
that the need is met after an event with no tests when it was met before. -/

/-- The setup values and the use of the node stand. -/
structure SetupStands (s t : State) : Prop where
  store : t.ss.store = s.ss.store
  running : t.ss.running = s.ss.running
  cycle : t.ss.cycle = s.ss.cycle
  inUse : configured t = configured s

/-- No call has joined the list, whatever was stated again. -/
structure Thins (s t : State) : Prop extends SetupStands s t where
  stationOpen : t.cl.stationOpen = s.cl.stationOpen
  keys : (callKeys t.cl).Sublist (callKeys s.cl)

/-- The sum of R128 stands as well. -/
structure Rests (s t : State) : Prop extends Thins s t where
  sum : stationSum t = stationSum s

theorem SetupStands.storeOk {s t : State} (h : SetupStands s t) (hs : StoreOk s) : StoreOk t := by
  obtain ⟨store, running, cycle, valid⟩ := hs
  exact ⟨h.store ▸ store, h.running ▸ running, h.cycle ▸ cycle, by rw [h.inUse, h.running]; exact valid⟩

theorem SetupStands.of_frame {s t : State} (hs : t.ss = s.ss) (hn : t.sn.service = s.sn.service) :
    SetupStands s t :=
  ⟨by rw [hs], by rw [hs], by rw [hs], configured_of_sn hn⟩

theorem SetupStands.of_retains {s t : State} (h : Retains s t) : SetupStands s t := { h with }

theorem SetupStands.thins {s t : State} (h : SetupStands s t) (hc : t.cl.calls = s.cl.calls)
    (ho : t.cl.stationOpen = s.cl.stationOpen) : Thins s t :=
  { h with stationOpen := ho, keys := by rw [callKeys, hc]; exact List.Sublist.refl _ }

theorem Thins.of_frame {s t : State} (hs : t.ss = s.ss) (hn : t.sn.service = s.sn.service)
    (hc : t.cl.calls = s.cl.calls) (ho : t.cl.stationOpen = s.cl.stationOpen) : Thins s t :=
  (SetupStands.of_frame hs hn).thins hc ho

theorem Thins.of_retains {s t : State} (h : Retains s t)
    (hc : t.cl.calls = s.cl.calls ∧ t.cl.stationOpen = s.cl.stationOpen) : Thins s t :=
  (SetupStands.of_retains h).thins hc.1 hc.2

theorem Thins.refl (s : State) : Thins s s := .of_retains (.refl s) ⟨rfl, rfl⟩

theorem Thins.trans {s t u : State} (h : Thins s t) (h' : Thins t u) : Thins s u where
  store := h'.store.trans h.store
  running := h'.running.trans h.running
  cycle := h'.cycle.trans h.cycle
  inUse := h'.inUse.trans h.inUse
  stationOpen := h'.stationOpen.trans h.stationOpen
  keys := h'.keys.trans h.keys

theorem Thins.of_filter {s t : State} (h : SetupStands s t) (p : CallEntry → Bool)
    (hc : t.cl.calls = s.cl.calls.filter p) (ho : t.cl.stationOpen = s.cl.stationOpen) : Thins s t :=
  { h with stationOpen := ho, keys := by rw [callKeys, hc]; exact List.filter_sublist.map _ }

/-- The sum is read from the contents of the queue and the lengths of the expected list and the call list. -/
theorem Thins.rests {s t : State} (h : Thins s t) (hq : t.zq.queue.map (·.content) = s.zq.queue.map (·.content))
    (he : t.zq.expected = s.zq.expected) (hc : (callKeys t.cl).length = (callKeys s.cl).length) : Rests s t :=
  have calls : t.cl.calls.length = s.cl.calls.length := by simpa [callKeys] using hc
  { h with sum := by rw [stationSum, stationSum, emptyCount_of_contents hq, he, calls] }

theorem Rests.of_frame {s t : State} (hs : t.ss = s.ss) (hn : t.sn.service = s.sn.service) (hz : t.zq = s.zq)
    (hc : t.cl = s.cl) : Rests s t :=
  (Thins.of_frame hs hn (by rw [hc]) (by rw [hc])).rests (by rw [hz]) (by rw [hz]) (by rw [hc])

theorem Rests.refl (s : State) : Rests s s := .of_frame rfl rfl rfl rfl

theorem Rests.trans {s t u : State} (h : Rests s t) (h' : Rests t u) : Rests s u :=
  { h.toThins.trans h'.toThins with sum := h'.sum.trans h.sum }

/-! ## The invariant, and what the tests of an event need of it -/

/-- What every step keeps. -/
abbrev CallsKept (s : State) : Prop := CallsOk s ∧ NeedOk s ∧ StoreOk s

/-- What an event leaves for the tests that follow it: of NeedOk only that a closed station has no call (R131). -/
structure TestsReady (s : State) : Prop where
  keys : KeysOk (callKeys s.cl)
  store : StoreOk s
  closed : role s = .load → configured s = true → s.cl.stationOpen = false → s.cl.calls = []

theorem CallsKept.testsReady {s : State} (h : CallsKept s) : TestsReady s := by
  obtain ⟨calls, need, store⟩ := h
  exact ⟨(callsOk_iff s).1 calls, store, fun hr hc => (need hr hc).2.2⟩

theorem role_of_running {s t : State} (h : t.ss.running = s.ss.running) : role t = role s := by
  rw [role, role, h]

theorem callKeys_eq_nil {cl : CallList} : callKeys cl = [] ↔ cl.calls = [] := List.map_eq_nil_iff

theorem Thins.calls_nil {s t : State} (h : Thins s t) (hn : s.cl.calls = []) : t.cl.calls = [] := by
  have keys := h.keys
  rw [callKeys_eq_nil.2 hn, List.sublist_nil] at keys
  exact callKeys_eq_nil.1 keys

theorem Thins.testsReady {s t : State} (h : Thins s t) (hs : TestsReady s) : TestsReady t where
  keys := hs.keys.sublist h.keys
  store := h.storeOk hs.store
  closed hr hc ho := h.calls_nil
    (hs.closed (role_of_running h.running ▸ hr) (h.inUse ▸ hc) (h.stationOpen ▸ ho))

theorem Rests.kept {s t : State} (h : Rests s t) (hs : CallsKept s) : CallsKept t := by
  have ⟨_, need, _⟩ := hs
  obtain ⟨keys, store, -⟩ := h.testsReady hs.testsReady
  refine ⟨(callsOk_iff t).2 keys, fun hr hc => ?_, store⟩
  obtain ⟨met, excess, closed⟩ := need (role_of_running h.running ▸ hr) (h.inUse ▸ hc)
  have target : targetEmpties t = targetEmpties s := by rw [targetEmpties, targetEmpties, h.running]
  rw [target, h.sum, h.stationOpen]
  exact ⟨met, fun he => h.calls_nil (excess he), fun ho => h.calls_nil (closed ho)⟩

/-! ## The tests of an event (R128, R130) -/

theorem targetEmpties_le {s : State} (h : StoreOk s) : targetEmpties s ≤ 3 := by
  obtain ⟨-, items, -⟩ := h
  rw [targetEmpties, itemNat]
  cases hv : itemValue s.ss.running .targetEmpties with
  | none => simp
  | some v => exact (itemInRange_bounds (itemsOk_iff.1 items .targetEmpties v hv)).2

/-- A call issued has a new key and leaves a station with no more than three. -/
theorem issueCall_keysOk {s : State} (h : KeysOk (callKeys s.cl)) (few : s.cl.calls.length < 3) :
    KeysOk (callKeys (issueCall s).cl) := by
  obtain ⟨e, calls, -, -, -, -, serial⟩ := issueCall_calls s
  obtain ⟨-, -, -, fresh, -⟩ := nextCallSerial_next (calls := s.cl.calls) (by omega) s.cl.lastSerial
  have keys : callKeys (issueCall s).cl = callKeys s.cl ++ [e.key] := by simp [callKeys, calls]
  have length : (callKeys s.cl).length = s.cl.calls.length := by simp [callKeys]
  rw [keys]
  refine h.snoc (fun hk => ?_) (by omega) (lt_of_le_of_lt List.countP_le_length (by omega))
  obtain ⟨x, hx, he⟩ := List.mem_map.1 hk
  exact fresh x hx (by rw [he, serial])

theorem issueCalls_keysOk (n : Nat) {s : State} (h : KeysOk (callKeys s.cl)) (ht : targetEmpties s ≤ 3) :
    KeysOk (callKeys (issueCalls n s).cl) := by
  induction n generalizing s with
  | zero => exact h
  | succ n ih =>
    unfold issueCalls; split
    · rename_i need
      simp only [Bool.and_eq_true, decide_eq_true_eq] at need
      have few : s.cl.calls.length ≤ stationSum s := Nat.le_add_left ..
      refine ih (issueCall_keysOk h (by omega)) ?_
      rwa [targetEmpties_of_ss (s := s) (by simp)]
    · exact h

theorem testNeed_keysOk {s : State} (h : KeysOk (callKeys s.cl)) (ht : targetEmpties s ≤ 3) :
    KeysOk (callKeys (testNeed s).cl) := by
  unfold testNeed; split
  · obtain ⟨-, ⟨rest, calls⟩, -⟩ := withdrawExcess_sum s.cl.calls.length s le_rfl
    refine issueCalls_keysOk _ (h.sublist ?_) (by rwa [targetEmpties_of_ss (s := s) (by simp)])
    have fewer : (withdrawExcess s.cl.calls.length s).cl.calls.Sublist s.cl.calls := by
      conv_rhs => rw [calls]
      exact List.sublist_append_left ..
    exact fewer.map _
  · exact h

theorem withdrawAll_calls {n : Nat} {s : State} (hn : s.cl.calls.length ≤ n) : (withdrawAll n s).cl.calls = [] := by
  induction n generalizing s with
  | zero => exact List.length_eq_zero_iff.1 (Nat.le_zero.1 hn)
  | succ n ih =>
    unfold withdrawAll; split
    · rename_i empty; simpa using empty
    · rename_i waiting
      have shorter : (s.cl.calls.eraseIdx 0).length ≤ n := by
        cases hc : s.cl.calls with
        | nil => simp [hc] at waiting
        | cons e rest => simp only [hc, List.length_cons] at hn; simpa using hn
      exact ih (by simpa using shorter)

/-- The tests change the call list as CL's evaluation of the need does. -/
theorem settle_calls {s : State} (h : configured s = true) :
    (settle s).cl.calls = (testNeed (testQuiet (formJudgement s))).cl.calls
      ∧ (settle s).cl.lastSerial = (testNeed (testQuiet (formJudgement s))).cl.lastSerial := by
  simp [settle, h]

theorem TestsReady.settle {s : State} (h : TestsReady s) : CallsKept (settle s) := by
  refine ⟨(callsOk_iff _).2 ?_, fun hr hc => ?_, (SetupStands.of_retains (settle_retains s)).storeOk h.store⟩
  · cases hc : configured s with
    | false => rw [settle_unconfigured hc]; exact h.keys
    | true =>
      rw [callKeys, (settle_calls hc).1]
      refine testNeed_keysOk (by simpa using h.keys) ?_
      rw [targetEmpties_of_ss (s := s) (by simp)]
      exact targetEmpties_le h.store
  · exact settle_needOk (h.closed (by simpa using hr) (by simpa using hc)) hr hc

theorem Thins.settled {s t : State} (h : Thins s t) (hs : CallsKept s) : CallsKept (settle t) :=
  (h.testsReady hs.testsReady).settle

/-! ## Operations that leave the calls as they stand -/

@[simp] theorem stopExit_calls (s : State) :
    (stopExit s).cl.calls = s.cl.calls ∧ (stopExit s).cl.stationOpen = s.cl.stationOpen := by
  unfold stopExit; split <;> simp

@[simp] theorem haltBegins_calls (s : State) :
    (haltBegins s).cl.calls = s.cl.calls ∧ (haltBegins s).cl.stationOpen = s.cl.stationOpen := by
  simp [haltBegins]

@[simp] theorem enterFaulted_calls (s : State) :
    (enterFaulted s).cl.calls = s.cl.calls ∧ (enterFaulted s).cl.stationOpen = s.cl.stationOpen := by
  simp [enterFaulted]

@[simp] theorem latchFault_calls (k : FaultKind) (d : Byte) (t v : Word16) (s : State) :
    (latchFault k d t v s).cl.calls = s.cl.calls ∧ (latchFault k d t v s).cl.stationOpen = s.cl.stationOpen := by
  simp only [latchFault]; (repeat' split) <;> simp

@[simp] theorem endRelease_calls (s : State) :
    (endRelease s).cl.calls = s.cl.calls ∧ (endRelease s).cl.stationOpen = s.cl.stationOpen := by
  simp [endRelease]

@[simp] theorem removeHead_calls (s : State) :
    (removeHead s).cl.calls = s.cl.calls ∧ (removeHead s).cl.stationOpen = s.cl.stationOpen := by
  simp only [removeHead]; (repeat' split) <;> simp

@[simp] theorem judgeCurrent_calls (n : Nat) (s : State) :
    (judgeCurrent n s).cl.calls = s.cl.calls ∧ (judgeCurrent n s).cl.stationOpen = s.cl.stationOpen := by
  obtain ⟨dc, judged | jam⟩ := WashProofs.judgeCurrent_cases n s
  · simp [judged]
  · simp [jam]

@[simp] theorem faultedSample_calls (probe : AdcCode) (s : State) :
    (faultedSample probe s).cl.calls = s.cl.calls
      ∧ (faultedSample probe s).cl.stationOpen = s.cl.stationOpen := by
  simp only [faultedSample]; split <;> simp

@[simp] theorem takeSample_calls (probe current : AdcCode) (s : State) :
    (takeSample probe current s).cl.calls = s.cl.calls
      ∧ (takeSample probe current s).cl.stationOpen = s.cl.stationOpen := by
  rw [WashProofs.takeSample_eq, WashProofs.converted]
  (repeat' split) <;> simp

/-! ## Events that thin the call list, or leave it, before the tests -/

theorem changeTerms_thins {change : State → State} {s : State} (h : Retains s (change s))
    (hc : (change s).cl = s.cl) : Thins s (changeTerms change s) := by
  refine .of_retains (changeTerms_retains h) ?_
  simp only [changeTerms]; (repeat' split) <;> simp [hc]

theorem makeStray_thins (d : Byte) (v : Word16) (s : State) : Thins s (makeStray d v s) :=
  .of_frame (by simp) (by simp [makeStray, joinQueue, cancelQuiet]) (by simp) (by simp)

theorem arrive_thins (n : Nat) (s : State) : Thins s (arrive n s) := by
  unfold arrive; split
  · exact .refl s
  · exact .of_frame (by simp) (by simp [joinQueue, cancelQuiet]) (by simp) (by simp)

theorem overfull_thins (inlet : Inlet) (s : State) : Thins s (overfull inlet s) := by
  refine .of_retains (overfull_retains inlet s) ?_
  simp only [overfull]; split <;> simp

theorem rackAtInlet_thins (inlet : Inlet) (s : State) : Thins s (rackAtInlet inlet s) := by
  unfold rackAtInlet; split
  · exact overfull_thins inlet s
  split
  · exact arrive_thins _ s
  · exact makeStray_thins _ _ s

theorem rackGoneFromExit_thins (s : State) : Thins s (rackGoneFromExit s) := by
  refine .of_retains (rackGoneFromExit_retains s) ?_
  unfold rackGoneFromExit; (repeat' split) <;> simp

theorem pressEmpty_thins (s : State) : Thins s (pressEmpty s) := by
  refine .of_retains (pressEmpty_retains s) ?_
  unfold pressEmpty; (repeat' split) <;> simp

/-- The bound call of a record is absent, outstanding, or surplus (R132). -/
theorem judgeCall_unbound {r : RackRecord} (h : r.bound = none) (a : Addr) (s : State) : judgeCall a r s = s := by
  rw [judgeCall, h]

theorem judgeCall_outstanding {r : RackRecord} {key : CallKey} {s : State} (h : r.bound = some key)
    (hk : ∃ e ∈ s.cl.calls, e.key = key) (a : Addr) :
    judgeCall a r s = { s with cl := { s.cl with calls := s.cl.calls.filter fun e => e.key != key } } := by
  rw [judgeCall, h]
  exact if_pos (by simpa using hk)

theorem judgeCall_surplus {r : RackRecord} {key : CallKey} {s : State} (h : r.bound = some key)
    (hk : ∀ e ∈ s.cl.calls, e.key ≠ key) (a : Addr) :
    judgeCall a r s = sendNotice .surplus (addrOctet a) (tagWord r.tag) (key.serial.setWidth 16)
      (count (fun c => { c with surplus := c.surplus + 1 }) s) := by
  rw [judgeCall, h]
  exact if_neg (by simpa using hk)

theorem judgeCall_thins (a : Addr) (r : RackRecord) (s : State) : Thins s (judgeCall a r s) := by
  cases hb : r.bound with
  | none => rw [judgeCall_unbound hb]; exact .refl s
  | some key =>
    by_cases hk : ∃ e ∈ s.cl.calls, e.key = key
    · rw [judgeCall_outstanding hb hk]
      exact .of_filter (.of_frame rfl rfl) _ rfl rfl
    · rw [judgeCall_surplus hb (by simpa using hk)]
      exact .of_frame (by simp) (by simp) (by simp) (by simp)

theorem joinExpected_thins (source : Addr) (body : List Byte) (u : Inlet) (s : State) :
    Thins s (joinExpected source body u s) := by
  unfold joinExpected
  generalize (if role s = .merge then arbitrated u s else s.ma) = ma
  have joined : Thins s (cancelQuiet (cancelRunOn { s with
      zq := { s.zq with expected := s.zq.expected ++ [passEntry source body s] }, ma := ma })) :=
    Thins.of_frame rfl rfl rfl rfl
  simp only []; split
  · exact joined.trans (judgeCall_thins ..)
  · exact joined

theorem answerCall_thins (w : Word16) (s : State) : Thins s (answerCall w s) := by
  cases hk : s.cl.offerCall with
  | none => rw [answerCall, hk]; exact .refl s
  | some key =>
    rw [ExitProofs.answerCall_eq hk]
    exact .of_filter (.of_frame (by simp) rfl) _ rfl rfl

theorem moveExit_thins (s : State) : Thins s (ExitProofs.moveExit s) := by
  unfold ExitProofs.moveExit; split
  · exact .of_retains (recallOffer_retains _ s) (by simp)
  split
  · exact .refl s
  split <;> exact .of_frame (by simp) (by simp) (by simp) (by simp)

theorem acceptOffer_thins (w : Word16) (s : State) : Thins s (acceptOffer w s) := by
  rw [ExitProofs.acceptOffer_eq]
  refine .trans ?_ (moveExit_thins _)
  split
  · exact answerCall_thins w s
  · exact .refl s

theorem refuseOffer_thins (z : Option Addr) (s : State) : Thins s (refuseOffer z s) :=
  .of_retains (refuseOffer_retains z s) (by simp)

theorem expireCall_thins (key : CallKey) (s : State) : Thins s (expireCall key s) :=
  .of_filter (.of_frame rfl rfl) _ rfl rfl

theorem startHold_thins (s : State) : Thins s
    (let s := changeTerms (fun s => { s with sn := { s.sn with startHold := none } }) s
     if configured s then startSampling s else s) := by
  have ended : Thins s (changeTerms (fun s => { s with sn := { s.sn with startHold := none } }) s) :=
    changeTerms_thins (.of_frame rfl rfl rfl rfl) rfl
  simp only []; split
  · exact ended.trans { Thins.refl _ with }
  · exact ended

/-! ## A CALL at a SPUR (R123) -/

theorem storeCall_foreign {key : CallKey} {s : State} (h : spurStores s key.station = false) : storeCall key s = s := by
  simp [storeCall, h]

theorem storeCall_known {key : CallKey} {s : State} (h : spurStores s key.station = true)
    (hk : ∃ e ∈ s.cl.calls, e.key = key) :
    storeCall key s = { s with cl := { s.cl with calls := s.cl.calls.map fun e => if e.key = key then
      { key := key, lastHeard := s.tb, timer := some { start := s.tb, duration := 60000 } } else e } } := by
  have known : s.cl.calls.any (fun e => e.key == key) = true := by simpa using hk
  simp [storeCall, h, known, startTimer, callExpiryMs]

theorem storeCall_full {key : CallKey} {s : State} (hk : ∀ e ∈ s.cl.calls, e.key ≠ key)
    (full : s.cl.calls.length ≥ 24 ∨ s.cl.calls.countP (fun e => e.key.station == key.station) ≥ 3) :
    storeCall key s = s := by
  have unknown : s.cl.calls.any (fun e => e.key == key) = false := by simpa using hk
  simp [storeCall, unknown, full]

theorem storeCall_new {key : CallKey} {s : State} (h : spurStores s key.station = true)
    (hk : ∀ e ∈ s.cl.calls, e.key ≠ key)
    (room : ¬ (s.cl.calls.length ≥ 24 ∨ s.cl.calls.countP (fun e => e.key.station == key.station) ≥ 3)) :
    storeCall key s = { s with cl := { s.cl with calls := s.cl.calls ++
      [{ key := key, lastHeard := s.tb, timer := some { start := s.tb, duration := 60000 } }] } } := by
  have unknown : s.cl.calls.any (fun e => e.key == key) = false := by simpa using hk
  simp [storeCall, h, unknown, room, startTimer, callExpiryMs]

/-- A CALL joins the list under a new key, while the list and its station have room. -/
theorem storeCall_keysOk {key : CallKey} {s : State} (h : KeysOk (callKeys s.cl)) :
    KeysOk (callKeys (storeCall key s).cl) := by
  cases stores : spurStores s key.station with
  | false => rwa [storeCall_foreign stores]
  | true =>
    by_cases hk : ∃ e ∈ s.cl.calls, e.key = key
    · have refreshed : callKeys (storeCall key s).cl = callKeys s.cl := by
        rw [storeCall_known stores hk]
        simp only [callKeys, List.map_map]
        refine List.map_congr_left fun x _ => ?_
        by_cases hx : x.key = key <;> simp [hx]
      rwa [refreshed]
    · have unknown : ∀ e ∈ s.cl.calls, e.key ≠ key := by simpa using hk
      by_cases full : s.cl.calls.length ≥ 24 ∨ s.cl.calls.countP (fun e => e.key.station == key.station) ≥ 3
      · rwa [storeCall_full unknown full]
      · rw [storeCall_new stores unknown full]
        rw [not_or, not_le, not_le] at full
        have added := h.snoc (k := key) (by simpa [callKeys] using unknown) (by simpa [callKeys] using full.1)
          (by rw [callKeys_countP]; exact full.2)
        simpa [callKeys] using added

theorem storeCall_testsReady {s : State} (h : CallsKept s) (hr : role s = .spur) (key : CallKey) :
    TestsReady (storeCall key s) := by
  obtain ⟨keys, store, -⟩ := h.testsReady
  refine ⟨storeCall_keysOk keys, (SetupStands.of_frame (s := s) (by simp) (by simp)).storeOk store, fun hl => ?_⟩
  rw [role_of_running (s := s) (by simp), hr] at hl
  cases hl

/-! ## Events that no test follows -/

theorem sendFrame_rests (f : Frame) (s : State) : Rests s (sendFrame f s) :=
  .of_frame (by simp) (by simp) (by simp) (by simp)

theorem sendNotice_rests (k : NoticeKind) (d : Byte) (t v : Word16) (s : State) : Rests s (sendNotice k d t v s) :=
  .of_frame (by simp) (by simp) (by simp) (by simp)

theorem driveSlot_rests (b : Slot) (s : State) : Rests s (driveSlot b s) := .of_frame rfl rfl rfl rfl

theorem frameHeard_rests (s : State) : Rests s (frameHeard s) := .of_frame rfl rfl rfl rfl

theorem countReceiveError_rests (s : State) : Rests s (countReceiveError s) := .of_frame rfl rfl rfl rfl

theorem abandonFrame_rests (s : State) : Rests s (abandonFrame s) := .of_frame rfl rfl rfl rfl

theorem sendAbort_rests (s : State) : Rests s (sendAbort s) := .of_frame rfl rfl rfl rfl

theorem changeEntry_rests (f : TxEntry → TxEntry) (n : Nat) (s : State) : Rests s (changeEntry f n s) :=
  .of_frame rfl rfl rfl rfl

theorem leaveList_rests (n : Nat) (e : TxEntry) (s : State) : Rests s (leaveList n e s) := .of_frame rfl rfl rfl rfl

theorem reachExpiry_rests (t : Timer) (s : State) : Rests s (reachExpiry t s) :=
  .of_frame (by simp) (by simp) (by simp) (by simp)

theorem placeState_rests (s : State) : Rests s (placeState s) :=
  .of_frame (by simp) (by simp) (by simp) (by simp)

theorem sendStop_rests (s : State) : Rests s (sendStop s) :=
  .of_frame (by simp [sendStop]) (by simp [sendStop]) (by simp [sendStop]) (by simp [sendStop])

theorem repeatNotice_rests (k : FaultKind) (f : LatchedFault) (s : State) : Rests s (repeatNotice k f s) :=
  .of_frame (by simp [repeatNotice]) (by simp [repeatNotice]) (by simp [repeatNotice]) (by simp [repeatNotice])

/-- An entry eye that the role does not act on. -/
theorem setEntryEye_rests (inlet : Inlet) (b : Bool) (s : State) : Rests s (setEntryEye inlet b s) := by
  cases inlet <;> exact { Rests.refl s with }

/-- A latched fault may undo the binding of the head, and takes no rack and no call with it (R14, R138). -/
theorem latchFault_rests (k : FaultKind) (d : Byte) (t v : Word16) (s : State) : Rests s (latchFault k d t v s) := by
  have kept := WashProofs.latchFault_onlyUnbinds k d t v s
  exact (Thins.of_retains (latchFault_retains ..) ⟨kept.calls, by simp⟩).rests (kept.map_eq fun _ => rfl) kept.expected
    (by simp [callKeys])

theorem testDuplicate_rests (f : Frame) (s : State) : Rests s (testDuplicate f s) := by
  unfold testDuplicate; split
  · exact latchFault_rests ..
  · exact .refl s

theorem takeSample_rests (probe current : AdcCode) (s : State) : Rests s (takeSample probe current s) :=
  (Thins.of_retains (takeSample_retains ..) (by simp)).rests
    (WashProofs.takeSample_map (fun _ => rfl) (fun _ _ => rfl) probe current s)
    (WashProofs.takeSample_onlyUnbinds probe current s).expected (by simp [callKeys])

/-- A call stated again keeps its key and its place (R129). -/
theorem repeatCall_rests (e : CallEntry) (s : State) : Rests s (repeatCall e s) := by
  have keys : callKeys (repeatCall e s).cl = callKeys s.cl := by
    simp only [repeatCall, sendFrame_frame, callKeys, List.map_map]
    refine List.map_congr_left fun x _ => ?_
    by_cases hx : x.key = e.key <;> simp [hx]
  have thins : Thins s (repeatCall e s) :=
    { SetupStands.of_frame (s := s) (t := repeatCall e s) (by simp [repeatCall]) (by simp [repeatCall]) with
      stationOpen := by simp [repeatCall]
      keys := by rw [keys] }
  exact thins.rests (by simp [repeatCall]) (by simp [repeatCall]) (by rw [keys])

theorem tagTail_contents (tag : Option (BitVec 12)) (l : List RackRecord) :
    (tagTail tag l).map (·.content) = l.map (·.content) := by
  induction l using tagTail.induct with
  | case1 => rfl
  | case2 r => rfl
  | case3 r rest hne ih =>
    rw [tagTail]
    · simp [ih]
    · exact hne

theorem applyRead_rests (value : Word16) (s : State) : Rests s (applyRead value s) := by
  have tagged : Rests s { s with zq := { s.zq with queue := tagTail (tagOfWord value) s.zq.queue } } :=
    Thins.rests (.of_frame rfl rfl rfl rfl) (tagTail_contents ..) rfl rfl
  unfold applyRead; split
  · exact .refl s
  · simp only []; split
    · exact tagged
    · exact tagged.trans (sendNotice_rests ..)

/-! ## Resets and the setup store (R159, R161) -/

theorem resetNode_cl (cause : ResetCause) (s : State) : (resetNode cause s).cl = CallList.reset := by
  simp only [resetNode]; split
  · simp
  · rfl

theorem resetNode_kept (cause : ResetCause) {s : State} (h : CallsKept s) : CallsKept (resetNode cause s) := by
  obtain ⟨-, -, items, -⟩ := h
  obtain ⟨-, setup, inUse⟩ := resetNode_blocks cause s
  have calls := resetNode_cl cause s
  refine ⟨(callsOk_iff _).2 (by rw [calls]; exact keysOk_nil), ?_, ?_, ?_, ?_, ?_⟩
  · simp [NeedOk, calls, CallList.reset]
  · rw [setup]; exact items
  · rw [setup]; exact itemsOk_runningItems items
  · simp [setup, SetupStore.reset]
  · rw [inUse, setup]; exact (validityCheck_runningItems _).symm

theorem decideWrite_kept (source target : Addr) (item : Byte) (value : Word16) {s : State} (h : CallsKept s) :
    CallsKept (decideWrite source target item value s) := by
  unfold decideWrite; split
  · exact (sendFrame_rests ..).kept (Rests.kept { Rests.refl s with } h)
  · rename_i i hi
    obtain ⟨calls, need, store, running, -, valid⟩ := h
    exact ⟨calls, need, store, running, writtenValue_inRange hi, valid⟩

theorem completeWrite_kept {w : WriteCycle} {s : State} (h : CallsKept s)
    (hw : (w.value.all fun v => itemInRange w.item v.toNat) = true) : CallsKept (completeWrite w s) := by
  refine (sendFrame_rests ..).kept ?_
  obtain ⟨calls, need, store, running, -, valid⟩ := h
  exact ⟨calls, need, itemsOk_setItem store w.item hw, running, rfl, valid⟩

/-! ## Frames received (R148 to R150) -/

theorem takePass_kept (source : Addr) (body : List Byte) {s : State} (h : CallsKept s) :
    CallsKept (takePass source body s) := by
  unfold takePass; split
  · exact (driveSlot_rests ..).kept h
  · exact (driveSlot_rests ..).kept ((joinExpected_thins ..).settled h)

theorem takeRecall_kept (source : Addr) (serial : Byte) {s : State} (h : CallsKept s) :
    CallsKept (takeRecall source serial s) := by
  unfold takeRecall; split
  · exact (driveSlot_rests ..).kept h
  · exact (driveSlot_rests ..).kept ((Thins.of_retains (dropExpected_retains _ s) (by simp)).settled h)

theorem takeSettled_kept (station serial : Byte) {s : State} (h : CallsKept s) :
    CallsKept (takeSettled station serial s) := by
  unfold takeSettled; split
  · exact h
  split
  · exact (expireCall_thins _ s).settled h
  · exact h

theorem takeCall_kept (station serial : Byte) {s : State} (h : CallsKept s) :
    CallsKept (takeCall station serial s) := by
  unfold takeCall; split
  · rename_i hr _
    exact (storeCall_testsReady h hr _).settle
  · exact h

theorem takeState_kept (source : Addr) (b : StateBody) {s : State} (h : CallsKept s) :
    CallsKept (takeState source b s) := by
  unfold takeState; split
  · exact (Thins.of_frame (by simp) (by simp) (by simp) (by simp)).settled h
  · exact h

theorem takeClear_kept (code : Byte) {s : State} (h : CallsKept s) : CallsKept (takeClear code s) :=
  (driveSlot_rests ..).kept ((Thins.of_retains (unlatch_retains code s) ⟨rfl, rfl⟩).settled h)

theorem takeAsk_kept (source target : Addr) (topic index : Byte) {s : State} (h : CallsKept s) :
    CallsKept (takeAsk source target topic index s) := by
  have answered := (driveSlot_rests .ack s).kept h
  simp only [takeAsk]; split
  · simp only [replyToAsk]; split
    · exact resetNode_kept .remote answered
    · exact (sendFrame_rests ..).kept answered
  · exact answered

theorem takeSetup_kept (source : Addr) {effect : State → State} {s : State} (h : CallsKept s)
    (he : CallsKept (effect s)) : CallsKept (takeSetup source effect s) := by
  unfold takeSetup; split
  · exact (driveSlot_rests ..).kept he
  · exact (driveSlot_rests ..).kept h

theorem addStop_cl (a : Addr) (s : State) : (addStop a s).cl = s.cl := by
  unfold addStop; split <;> rfl

theorem removeStop_cl (a : Addr) (s : State) : (removeStop a s).cl = s.cl := by
  unfold removeStop; (repeat' split) <;> rfl

theorem deliver_kept (f : Frame) {s : State} (h : CallsKept s) : CallsKept (deliver f s) := by
  unfold deliver; split
  · exact (changeTerms_thins (addStop_retains _ s) (addStop_cl _ s)).settled h
  · exact (changeTerms_thins (removeStop_retains _ s) (removeStop_cl _ s)).settled h
  · exact takePass_kept _ _ h
  · exact takeRecall_kept _ _ h
  · exact takeSettled_kept _ _ h
  · exact takeSettled_kept _ _ h
  · exact takeCall_kept _ _ h
  · exact takeState_kept _ _ h
  · exact takeAsk_kept _ _ _ _ h
  · exact takeClear_kept _ h
  · exact takeSetup_kept _ h (Rests.kept { Rests.refl s with } h)
  · exact takeSetup_kept _ h (decideWrite_kept _ _ _ _ h)
  · exact takeSetup_kept _ h ((sendFrame_rests ..).kept h)
  all_goals exact h

theorem deliverAtSetup_kept (f : Frame) {s : State} (h : CallsKept s) : CallsKept (deliverAtSetup f s) := by
  unfold deliverAtSetup; split
  · exact deliver_kept f h
  · exact h

theorem takeGood_kept (f : Frame) {s : State} (h : CallsKept s) : CallsKept (takeGood f s) := by
  unfold takeGood; split
  · split
    · exact (driveSlot_rests ..).kept h
    · exact h
  split
  · exact deliver_kept f h
  split
  · exact deliverAtSetup_kept f h
  · exact h

theorem receiveFrame_kept (f : Frame) {s : State} (h : CallsKept s) : CallsKept (receiveFrame f s) := by
  have heard := (frameHeard_rests s).kept h
  unfold receiveFrame; split
  · exact h
  split
  · unfold acceptGood; split
    · exact heard
    split
    · exact takeGood_kept f ((testDuplicate_rests ..).kept heard)
    split
    · exact deliverAtSetup_kept f heard
    · exact heard
  · exact (countReceiveError_rests _).kept heard

theorem receiveLine_kept (f : LineFrame) {s : State} (h : CallsKept s) : CallsKept (receiveLine f s) := by
  unfold receiveLine; split
  · exact h
  split
  · exact (countReceiveError_rests _).kept ((frameHeard_rests s).kept h)
  · exact receiveFrame_kept f.frame h

/-! ## Frames sent (R145 to R147, R156) -/

theorem tellOwner_kept (outcome : SendOutcome) (f : Frame) {s : State} (h : CallsKept s) :
    CallsKept (tellOwner outcome f s) := by
  unfold tellOwner; split
  · exact resetNode_kept .remote h
  split
  · refine Thins.settled ?_ h
    cases outcome with
    | acknowledged => exact acceptOffer_thins ..
    | held => exact refuseOffer_thins ..
    | failed => exact refuseOffer_thins ..
  · exact h

theorem failFrame_kept (n : Nat) (e : TxEntry) {s : State} (h : CallsKept s) : CallsKept (failFrame n e s) := by
  refine tellOwner_kept _ _ (Rests.kept ?_ h)
  split
  · exact .of_frame rfl rfl rfl rfl
  · exact .of_frame (by simp) (by simp) (by simp) (by simp)

theorem failAttempt_kept (n : Nat) (e : TxEntry) {s : State} (h : CallsKept s) : CallsKept (failAttempt n e s) := by
  unfold failAttempt; split
  · exact (changeEntry_rests ..).kept h
  split
  · exact failFrame_kept n e h
  · exact (changeEntry_rests ..).kept h

/-! ## Every command -/

/-- The next state that a command answers has the calls it needs within their bounds. -/
def AnswerKept (a : Answer) : Prop := ∀ t, a = .next t → CallsKept t

theorem answerKept_next {t : State} (h : CallsKept t) : AnswerKept (.next t) := by
  rintro _ ⟨⟩
  exact h

/-- An expiry keeps them when its effect does, whenever it is taken. -/
theorem onExpiry_kept {o : Option Timer} {f : State → State} {s : State} (h : CallsKept s)
    (hf : ∀ u, u.sn = s.sn → CallsKept u → CallsKept (f u)) : CallsKept (onExpiry o f s) := by
  unfold onExpiry; split
  · exact h
  · exact hf _ (by simp) ((reachExpiry_rests _ s).kept h)

section Commands

variable {s : State} (h : CallsKept s)
include h

theorem answerKept_running {f : State → State} (hf : CallsKept (f s)) : AnswerKept (.next (whileRunning f s)) := by
  refine answerKept_next ?_
  unfold whileRunning; split
  · exact h
  · exact hf

theorem answerKept_rests {f : State → State} (hf : Rests s (f s)) : AnswerKept (.next (whileRunning f s)) :=
  answerKept_running h (hf.kept h)

theorem answerKept_expiry (o : Option Timer) {f : State → State} (hf : ∀ u, CallsKept u → CallsKept (f u)) :
    AnswerKept (.next (whileRunning (fun s => onExpiry o f s) s)) :=
  answerKept_running h (onExpiry_kept h fun u _ => hf u)

theorem execEntryEyeBlocked_kept (inlet : Inlet) : AnswerKept (execEntryEyeBlocked inlet s) := by
  have seen := setEntryEye_rests inlet true s
  refine answerKept_running h ?_
  simp only []; split
  · exact (seen.toThins.trans (rackAtInlet_thins inlet _)).settled h
  · exact seen.kept h

theorem execExitEyeBlocked_kept : AnswerKept (execExitEyeBlocked s) := by
  have seen : Thins s (setExitEye true s) := { Thins.refl s with }
  refine answerKept_running h (Thins.settled ?_ h)
  split
  · exact seen.trans (makeStray_thins ..)
  · exact seen

theorem execExitEyeClear_kept : AnswerKept (execExitEyeClear s) := by
  have seen : Thins s (setExitEye false s) := { Thins.refl s with }
  refine answerKept_running h (Thins.settled ?_ h)
  split
  · exact seen.trans (rackGoneFromExit_thins _)
  · exact seen

theorem execRackFullPress_kept : AnswerKept (execRackFullPress s) := by
  refine answerKept_running h ?_
  split
  · exact (Thins.of_retains (rackFull_retains s) (by simp)).settled h
  · exact h

theorem execRackEmptyPress_kept : AnswerKept (execRackEmptyPress s) := by
  refine answerKept_running h ?_
  split
  · exact (pressEmpty_thins s).settled h
  · exact h

/-- An open station may have calls, so the tests need nothing more of it. -/
theorem execStationOpened_kept : AnswerKept (execStationOpened s) := by
  obtain ⟨keys, store, -⟩ := h.testsReady
  refine answerKept_running h ?_
  split
  · exact TestsReady.settle ⟨keys, store, fun _ _ ho => by cases ho⟩
  · exact h

/-- A station that closes withdraws every call (R131). -/
theorem execStationClosed_kept : AnswerKept (execStationClosed s) := by
  obtain ⟨-, store, -⟩ := h.testsReady
  refine answerKept_running h ?_
  split
  · have noCalls := withdrawAll_calls (s := { s with cl := { s.cl with stationOpen := false } }) le_rfl
    refine TestsReady.settle ⟨?_, ?_, fun _ _ _ => noCalls⟩
    · rw [callKeys_eq_nil.2 noCalls]; exact keysOk_nil
    · exact (SetupStands.of_frame (s := s) (by simp) (by simp)).storeOk store
  · exact h

theorem execTagRead_kept (value : Word16) : AnswerKept (execTagRead value s) := by
  refine answerKept_running h ?_
  split
  · exact (applyRead_rests value s).kept h
  · exact h

theorem execEstopReleased_kept : AnswerKept (execEstopReleased s) := by
  refine answerKept_rests h ?_
  split
  · exact .of_frame rfl rfl rfl rfl
  · exact .refl s

theorem execEstopActive_kept : AnswerKept (execEstopActive s) :=
  answerKept_running h ((changeTerms_thins (pressEstop_retains s) (by simp [pressEstop, sendStop])).settled h)

/-- A node that the quiet timer makes SERVING was configured as RECOVERING (R12). -/
theorem execQuietTimerExpiry_kept : AnswerKept (execQuietTimerExpiry s) := by
  refine answerKept_running h ?_
  split
  · rename_i hr
    refine onExpiry_kept h fun u hu hk => Thins.settled { Thins.refl u with inUse := ?_ } hk
    rw [configured, configured, hu, hr]; rfl
  · exact h

theorem execArrivalWindowExpiry_kept (n : Nat) : AnswerKept (execArrivalWindowExpiry n s) := by
  refine answerKept_running h ?_
  split
  · exact h
  · exact onExpiry_kept h fun u _ => (Thins.of_retains (loseExpected_retains n u) (by simp)).settled

theorem execDiverterTravelExpiry_kept : AnswerKept (execDiverterTravelExpiry s) := by
  refine answerKept_running h ?_
  split
  · exact onExpiry_kept h fun u _ hk => Thins.settled (t := travelDone u) (.of_frame rfl rfl rfl rfl) hk
  · exact h

theorem execReleaseLimitExpiry_kept : AnswerKept (execReleaseLimitExpiry s) := by
  refine answerKept_running h ?_
  split
  · exact onExpiry_kept h fun u _ =>
      (Thins.of_retains (releaseStuck_retains u) (by simp [releaseStuck])).settled
  · exact h

theorem execNeighbourSilenceExpiry_kept (z : Addr) : AnswerKept (execNeighbourSilenceExpiry z s) := by
  refine answerKept_running h ?_
  split
  · exact h
  · exact onExpiry_kept h fun u _ =>
      (Thins.of_retains (loseNeighbour_retains z u) (by simp [loseNeighbour])).settled

theorem execNoticeRepeatExpiry_kept (k : FaultKind) : AnswerKept (execNoticeRepeatExpiry k s) := by
  refine answerKept_running h ?_
  split
  · exact h
  · exact onExpiry_kept h fun u _ => (repeatNotice_rests ..).kept

theorem execCallRepeatExpiry_kept (n : Byte) : AnswerKept (execCallRepeatExpiry n s) := by
  refine answerKept_running h ?_
  split
  · exact onExpiry_kept h fun u _ => (repeatCall_rests _ u).kept
  · exact h

theorem execCallExpiry_kept (st : Station) (n : Byte) : AnswerKept (execCallExpiry st n s) := by
  refine answerKept_running h ?_
  split
  · exact onExpiry_kept h fun u _ => (expireCall_thins _ u).settled
  · exact h

theorem execWriteCycleCompletion_kept : AnswerKept (execWriteCycleCompletion s) := by
  refine answerKept_running h ?_
  split
  · exact h
  · rename_i w hw
    have ⟨_, _, _, _, cycle, _⟩ := h
    exact onExpiry_kept h fun u _ hk => completeWrite_kept hk (by simpa [hw] using cycle)

theorem execLineBusy_kept : AnswerKept (execLineBusy s) := by
  refine answerKept_rests h ?_
  split
  · exact frameHeard_rests s
  · exact .refl s

theorem execFrameSendStart_kept : AnswerKept (execFrameSendStart s) := by
  refine answerKept_rests h ?_
  split
  · split
    · exact .refl s
    · exact (changeEntry_rests _ _ s).trans (frameHeard_rests _)
  · exact .refl s

theorem execArbitrationLost_kept : AnswerKept (execArbitrationLost s) := by
  refine answerKept_rests h ?_
  split
  · exact .refl s
  · exact changeEntry_rests _ _ s

theorem execSelfCheckError_kept : AnswerKept (execSelfCheckError s) := by
  refine answerKept_running h ?_
  split
  · exact h
  · exact failAttempt_kept _ _ ((sendAbort_rests s).kept h)

theorem execBroadcastSent_kept : AnswerKept (execBroadcastSent s) := by
  refine answerKept_rests h ?_
  split
  · exact .refl s
  split
  · exact leaveList_rests ..
  · exact .refl s

theorem execReplySlotRead_kept (ack hold : Bool) : AnswerKept (execReplySlotRead ack hold s) := by
  refine answerKept_running h ?_
  split
  · exact h
  split
  · exact h
  split
  · exact tellOwner_kept _ _ ((leaveList_rests ..).kept h)
  split
  · exact tellOwner_kept _ _ ((leaveList_rests ..).kept h)
  · exact failAttempt_kept _ _ h

theorem execInsertionError_kept : AnswerKept (execInsertionError s) := by
  refine answerKept_rests h ?_
  split
  · exact .refl s
  · exact (abandonFrame_rests s).trans (countReceiveError_rests _)

theorem execAbortMark_kept : AnswerKept (execAbortMark s) := by
  refine answerKept_rests h ?_
  split
  · exact .refl s
  · exact abandonFrame_rests s

/-- Every command keeps the call list within its bounds and the need met. -/
theorem exec_kept (c : Instr) : AnswerKept (exec c s) := by
  cases c with
  | powerReset | pinReset => exact answerKept_next (resetNode_kept _ h)
  | resetnAsserted => exact answerKept_next (Rests.kept (.of_frame rfl rfl rfl rfl) h)
  | entryEyeBlocked inlet => exact execEntryEyeBlocked_kept h inlet
  | entryEyeClear inlet => exact answerKept_running h ((setEntryEye_rests ..).toThins.settled h)
  | exitEyeBlocked => exact execExitEyeBlocked_kept h
  | exitEyeClear => exact execExitEyeClear_kept h
  | rackFullPress => exact execRackFullPress_kept h
  | rackEmptyPress => exact execRackEmptyPress_kept h
  | stationOpened => exact execStationOpened_kept h
  | stationClosed => exact execStationClosed_kept h
  | tagRead value => exact execTagRead_kept h value
  | estopActive => exact execEstopActive_kept h
  | estopReleased => exact execEstopReleased_kept h
  | setupButtonPress => exact answerKept_rests h { Rests.refl s with }
  | startHoldExpiry => exact answerKept_expiry h _ fun u => (startHold_thins u).settled
  | quietTimerExpiry => exact execQuietTimerExpiry_kept h
  | estopReleaseExpiry =>
    exact answerKept_expiry h _ fun u =>
      (changeTerms_thins (releaseEstop_retains u) (by simp [releaseEstop])).settled
  | stopRepeatExpiry => exact answerKept_expiry h _ fun u => (sendStop_rests u).kept
  | tagReadWindowExpiry => exact answerKept_expiry h _ fun u => Rests.kept { Rests.refl u with }
  | arrivalWindowExpiry n => exact execArrivalWindowExpiry_kept h n
  | holdOffExpiry => exact answerKept_expiry h _ fun u hu => Thins.settled (.of_frame rfl rfl rfl rfl) hu
  | diverterTravelExpiry => exact execDiverterTravelExpiry_kept h
  | releaseLimitExpiry => exact execReleaseLimitExpiry_kept h
  | runOnExpiry => exact answerKept_expiry h _ fun u hu => Thins.settled (.of_frame rfl rfl rfl rfl) hu
  | neighbourSilenceExpiry z => exact execNeighbourSilenceExpiry_kept h z
  | statePeriodExpiry => exact answerKept_expiry h _ fun u => (placeState_rests u).kept
  | sampleCompletion probe current => exact answerKept_expiry h _ fun u => (takeSample_rests probe current u).kept
  | callRepeatExpiry n => exact execCallRepeatExpiry_kept h n
  | callExpiry st n => exact execCallExpiry_kept h st n
  | noticeRepeatExpiry k => exact execNoticeRepeatExpiry_kept h k
  | setupWindowExpiry => exact answerKept_expiry h _ fun u => Rests.kept { Rests.refl u with }
  | writeCycleCompletion => exact execWriteCycleCompletion_kept h
  | lineReleased => exact answerKept_rests h (.of_frame rfl rfl rfl rfl)
  | lineBusy => exact execLineBusy_kept h
  | frameSendStart => exact execFrameSendStart_kept h
  | arbitrationLost => exact execArbitrationLost_kept h
  | selfCheckError => exact execSelfCheckError_kept h
  | broadcastSent => exact execBroadcastSent_kept h
  | replySlotRead ack hold => exact execReplySlotRead_kept h ack hold
  | insertionError => exact execInsertionError_kept h
  | abortMark => exact execAbortMark_kept h
  | receiveError f => exact answerKept_running h (receiveLine_kept f h)
  | frameIgnored | stopReceived | goReceived | passReceived | recallReceived | stateReceived | callReceived
  | answerReceived | declineReceived | noticeReceived | replyReceived | clear | askStatus | askCounts | askQueue
  | askExpected | askCalls | askNeighbour | askRunning | askRestart | setupEnable | setupWrite | setupRead
  | askTopicOutsideRange => exact answerKept_running h (receiveFrame_kept _ h)

/-- A step of the time base is a due expiry or a millisecond (R8). -/
theorem idle_kept : AnswerKept (idle s) := by
  unfold idle; split
  · exact answerKept_next (Rests.kept { Rests.refl s with } h)
  · exact exec_kept h _
  · exact exec_kept h _

end Commands

/-- Settles O58: an event leaves the tests a list with no new call, but for the CALL that a SPUR has room to store; the
tests then issue calls under new keys up to the target, which is 3 at most; and an event that no test follows leaves the
sum as it was. -/
theorem stepKeepsTheCallList : Obligations.StepKeepsTheCallList := by
  intro s t h hs
  unfold step at hs; split at hs
  · exact idle_kept h t hs
  · rename_i c rest _
    have taken : CallsKept { s with pending := rest } := Rests.kept { Rests.refl s with } h
    exact exec_kept taken c t hs

/-! # What a LOAD and a SPUR do with a call

## The bound call of a record at a LOAD (R132) -/

/-- A record that joins at a LOAD has its bound call judged once it stands in the expected list (R73). -/
theorem joinExpected_load {s : State} (hr : role s = .load) (source : Addr) (body : List Byte) (u : Inlet) :
    joinExpected source body u s = judgeCall source (clampedRecord body)
      { s with zq := { s.zq with expected := s.zq.expected ++ [passEntry source body s] },
               dc := { s.dc with runOn := none }, sn := { s.sn with quiet := none } } := by
  have merge : role s ≠ .merge := by rw [hr]; decide
  simp only [joinExpected, if_neg merge]
  exact if_pos hr

/-- Settles O35: the PASS is acknowledged, and its bound call is judged against the call list as it stands. -/
theorem loadJudgesTheBoundCall : Obligations.LoadJudgesTheBoundCall := by
  intro source target body s h ho hz h1 h60 hlen hr hu hs hh hc entry joined
  have ack : passDecision source (frameHeard s) = some .one :=
    passDecision_ack (s := frameHeard s) (if_pos hu) hs hh (not_le.2 hc) (by simp [hr])
  have taken : exec (.passReceived source target body) s
      = .next (driveSlot .ack (settle (judgeCall source (clampedRecord body) joined))) := by
    rw [MergeProofs.exec_passReceived h ho hz h1 h60 hlen, takePass, ack]
    simp only [joinExpected_load (s := frameHeard s) hr]
    rfl
  refine ⟨fun hb => ?_, fun key hb => ⟨fun hk => ?_, fun hk => ?_⟩⟩
  · rw [taken, judgeCall_unbound hb]
  · rw [taken, judgeCall_outstanding (s := joined) hb hk]
    rfl
  · rw [taken, judgeCall_surplus (s := joined) hb hk]
    rfl

/-! ## A CALL received (R123) -/

/-- A CALL broadcast by another node reaches CL (R148). -/
theorem exec_callReceived {source : Addr} {s : State} (h : Hearing s) (ho : FromOther source s)
    (station serial : Byte) :
    exec (.callReceived source station serial) s = .next (takeCall station serial (frameHeard s)) := by
  have ⟨⟨ha, _⟩, _⟩ := h
  refine congrArg Host.Outcome.next ?_
  rw [whileRunning_awake ha, receiveFrame_hearing h ho (by simp [callFrame]) rfl, takeGood_broadcast _ rfl rfl]
  rfl

theorem takeCall_spur {s : State} {st : Station} (hr : role s = .spur) (hst : st ≠ 0) (serial : Byte) :
    takeCall (st.setWidth 8) serial s = settle (storeCall { station := st, serial := serial } s) := by
  simp [takeCall, hr, stationOfOctet_station hst]

theorem stationOfOctet_eq_none {b : Byte} (h : b = 0 ∨ 15 < b.toNat) : stationOfOctet b = none := by
  refine if_neg ?_
  simp only [Bool.and_eq_true, decide_eq_true_eq, not_and, not_le]
  rcases h with rfl | h
  · simp
  · exact fun _ => h

theorem takeCall_discarded {station : Byte} {s : State} (h : role s ≠ .spur ∨ stationOfOctet station = none)
    (serial : Byte) : takeCall station serial s = s := by
  unfold takeCall; split
  · rename_i hr hs
    rcases h with h | h
    · exact absurd hr h
    · rw [hs] at h; cases h
  · rfl

theorem inDownstreamSet_iff (c : Items) (st : Station) :
    inDownstreamSet c st = true
      ↔ st ≠ 0 ∧ (itemNat c .downstreamStations).testBit (st.toNat - 1) = true := by
  simp [inDownstreamSet]

/-- A SPUR stores the calls of its own station and of those downstream. -/
theorem spurStores_iff {s : State} {st : Station} (hst : st ≠ 0) :
    spurStores s st = true ↔ runningStation s.ss.running = some st
      ∨ (itemNat s.ss.running .downstreamStations).testBit (st.toNat - 1) = true := by
  rw [spurStores, Bool.or_eq_true, beq_iff_eq, inDownstreamSet_iff, and_iff_right hst, eq_comm]

/-- Settles O39: a CALL from a station reaches the list of a SPUR, where the first case of R123 that applies decides. -/
theorem spurStoresCalls : Obligations.SpurStoresCalls := by
  intro source station serial s h ho stored
  have taken : stored = .next (takeCall station serial (frameHeard s)) := exec_callReceived h ho station serial
  refine ⟨fun hn => ?_, ?_⟩
  · rw [taken, takeCall_discarded (s := frameHeard s) (hn.imp_right stationOfOctet_eq_none)]
  · intro st hr hs hst key entry stores full
    have decided : stored = .next (settle (storeCall key (frameHeard s))) := by
      rw [taken, hs, takeCall_spur (s := frameHeard s) hr hst]
    have takes : spurStores (frameHeard s) key.station = true ↔ stores := spurStores_iff hst
    rw [decided]
    refine ⟨fun hn => ?_, fun hy hk => ?_, fun _ hk hf => ?_, fun hy hk hf => ?_⟩
    · rw [storeCall_foreign (by simpa using mt takes.1 hn)]
    · rw [storeCall_known (takes.2 hy) hk]
      rfl
    · rw [storeCall_full (s := frameHeard s) hk hf]
    · rw [storeCall_new (takes.2 hy) hk hf]
      rfl

/-! ## The outlet of a SPUR (R134, R135) -/

/-- A call of the SPUR's own station. -/
def isOwnCall (s : State) (e : CallEntry) : Bool := some e.key.station == runningStation s.ss.running

/-- The station's zone can be offered to (R48). -/
def stationReady (s : State) : Bool := ((outletZone s.ss.running .two).map (zoneReady s)).getD false

theorem isOwnCall_iff (s : State) (e : CallEntry) :
    isOwnCall s e = true ↔ runningStation s.ss.running = some e.key.station := by
  rw [isOwnCall, beq_iff_eq, eq_comm]

theorem stationReady_iff (s : State) :
    stationReady s = true ↔ ∃ z n b, outletZone s.ss.running .two = some z ∧ neighbour? s z = some n
      ∧ n.presence = .present ∧ n.last = some b ∧ b.service = 2 ∧ b.flags.getLsbD 0 = false ∧ b.free ≠ 0 := by
  cases hz : outletZone s.ss.running .two with
  | none => simp [stationReady, hz]
  | some z => simp [stationReady, hz, ExitProofs.zoneReady_iff]

theorem spurChoice_laden {head : RackRecord} (h : head.content ≠ .empty) (s : State) :
    spurChoice s head = (.one, none) := if_pos h

theorem spurChoice_uncalled {s : State} (h : ∀ e ∈ s.cl.calls, isOwnCall s e = false) (head : RackRecord) :
    spurChoice s head = (.one, none) := by
  have absent : s.cl.calls.find? (fun e => some e.key.station == runningStation s.ss.running) = none :=
    List.find?_eq_none.2 fun e he => by simpa [isOwnCall] using h e he
  simp only [spurChoice, absent]
  split <;> rfl

/-- For an EMPTY head the first call of the own station decides, by the calls older than it and the station's zone. -/
theorem spurChoice_called {s : State} {head : RackRecord} {older later : List CallEntry} {k : CallEntry}
    (he : head.content = .empty) (hc : s.cl.calls = older ++ k :: later) (hk : isOwnCall s k = true)
    (ho : ∀ e ∈ older, isOwnCall s e = false) :
    spurChoice s head = if older.any (fun e => inDownstreamSet s.ss.running e.key.station) then (.one, none)
      else if stationReady s then (.two, some k.key) else (.one, none) := by
  have first : s.cl.calls.find? (isOwnCall s) = some k := by
    rw [hc, List.find?_append, List.find?_eq_none.2 (by simpa using ho)]
    simp [hk]
  have before : s.cl.calls.takeWhile (fun e => !isOwnCall s e) = older := by
    rw [hc, List.takeWhile_append_of_pos (by simpa using ho)]
    simp [hk]
  unfold isOwnCall at first before
  simp only [spurChoice, he, first, before, ne_eq, not_true_eq_false, if_false]
  rfl

/-- Settles O48: a head that is not EMPTY goes ONWARD; for one that is, R134's steps in their order. -/
theorem spurChoosesTheOutlet : Obligations.SpurChoosesTheOutlet := by
  intro s head own downstream ready
  have others {l : List CallEntry} (h : ∀ e ∈ l, ¬ own e) : ∀ e ∈ l, isOwnCall s e = false :=
    fun e he => by simpa using mt (isOwnCall_iff s e).1 (h e he)
  refine ⟨fun h => spurChoice_laden h s, fun h => spurChoice_uncalled (others h) head, ?_⟩
  intro older k later hc hk ho
  have served : older.any (fun e => inDownstreamSet s.ss.running e.key.station) = true ↔ ∃ e ∈ older, downstream e := by
    simp [inDownstreamSet_iff, downstream]
  have isReady : stationReady s = true ↔ ready := stationReady_iff s
  by_cases he : head.content = .empty
  · have choice := spurChoice_called he hc ((isOwnCall_iff s k).2 hk) (others ho)
    refine ⟨fun hd => ?_, fun hn => ?_, fun _ hd hy => ?_⟩
    · rw [choice, if_pos (served.2 hd)]
    · rw [choice, if_neg (mt isReady.1 hn), ite_self]
    · have noneServed : ¬ ∃ e ∈ older, downstream e := fun ⟨e, hm, hde⟩ => hd e hm hde
      rw [choice, if_neg (mt served.1 noneServed), if_pos (isReady.2 hy)]
  · exact ⟨fun _ => spurChoice_laden he s, fun _ => spurChoice_laden he s, fun hy => absurd hy he⟩

/-! # A station that opens issues its calls, and one that closes withdraws them

## The frames of calls in the transmit list (R122, R145) -/

/-- The entry that states a call or withdraws it in the transmit list, by its kind. -/
def callTx (k : FrameKind) (s : State) (e : CallEntry) : TxEntry := freshEntry (ownFrame s k 0 (callBody e.key))

theorem callTx_congr {s t : State} (h : t.ss = s.ss) (k : FrameKind) : callTx k t = callTx k s := by
  funext e
  simp [callTx, ownFrame, sendAddr, ownZone, h]

theorem sendFrame_joins {f : Frame} {s : State} (hc : configured s = true) (hs : f.kind ≠ .state)
    (hn : f.kind ≠ .notice) (h8 : s.li.tx.length < 8) : (sendFrame f s).li.tx = s.li.tx ++ [freshEntry f] := by
  rw [sendFrame, if_pos (by simp [hc])]
  exact placeFrame_joins f hs h8 fun h => absurd h hn

/-- A placing keeps the entries that are no STATE in their order. -/
theorem placeFrame_sublist (f : Frame) {li : LineInterface} {l : List TxEntry} (h : l.Sublist li.tx)
    (hk : ∀ e ∈ l, hasKind .state e = false) : l.Sublist (placeFrame f li).1.tx := by
  unfold placeFrame; split
  · have kept : l.filter (fun e => !hasKind .state e) = l := List.filter_eq_self.2 fun e he => by simp [hk e he]
    exact (kept ▸ h.filter _).trans (List.sublist_append_left ..)
  split
  · have same : l.map (fun e => if hasKind .state e then { e with replacement := some f } else e) = l :=
      (List.map_congr_left (g := id) fun e he => by simp [hk e he]).trans (List.map_id l)
    exact same ▸ h.map _
  split
  · exact h
  split
  · exact h
  · exact h.trans (List.sublist_append_left ..)

theorem placings_sublist {a b : LineInterface} (h : Placings a b) {l : List TxEntry} (hl : l.Sublist a.tx)
    (hk : ∀ e ∈ l, hasKind .state e = false) : l.Sublist b.tx := by
  induction h with
  | done => exact hl
  | more f _ ih => exact placeFrame_sublist f ih hk

/-- CALL and DECLINE frames placed before the tests stand in the list after them. -/
theorem placings_callTx {k : FrameKind} (hk : k ≠ .state) {s u : State} {l : List CallEntry} {li : LineInterface}
    (h : Placings u.li li) (hl : (l.map (callTx k s)).Sublist u.li.tx) : (l.map (callTx k s)).Sublist li.tx := by
  refine placings_sublist h hl fun e he => ?_
  obtain ⟨c, -, rfl⟩ := List.mem_map.1 he
  simpa [callTx, hasKind, freshEntry, ownFrame] using hk

/-! ## Calls issued (R128) -/

/-- The last serial once calls have been issued after `last`. -/
def lastIssued (last : Byte) (new : List CallEntry) : Byte := (new.getLast?.map (·.key.serial)).getD last

theorem lastIssued_cons (last : Byte) (e : CallEntry) (new : List CallEntry) :
    lastIssued last (e :: new) = lastIssued e.key.serial new := by
  cases h : new.getLast? <;> simp [lastIssued, List.getLast?_cons, h]

/-- `t` is `s` with calls issued one after another: each an entry at the tail, under the next serial, with its CALL. -/
structure Issues (s : State) (new : List CallEntry) (t : State) : Prop where
  calls : t.cl.calls = s.cl.calls ++ new
  entries : ∀ e ∈ new, e.key.station = (runningStation s.ss.running).getD 0 ∧ e.lastHeard = s.tb
    ∧ e.timer = some { start := s.tb, duration := 20000 }
  serials : ∀ k e, new[k]? = some e → (s.cl.calls ++ new.take k).length < 256 →
    NextSerial (s.cl.calls ++ new.take k) (lastIssued s.cl.lastSerial (new.take k)) e.key.serial
  lastSerial : t.cl.lastSerial = lastIssued s.cl.lastSerial new
  frames : configured s = true → s.li.tx.length + new.length ≤ 8 → t.li.tx = s.li.tx ++ new.map (callTx .call s)

theorem Issues.refl (s : State) : Issues s [] s := ⟨by simp, by simp, by simp, rfl, by simp⟩

/-- The CALL of a call issued joins a list that has a place for it. -/
theorem issueCall_tx {s : State} {e : CallEntry} (he : (issueCall s).cl.calls = s.cl.calls ++ [e])
    (hc : configured s = true) (h8 : s.li.tx.length < 8) :
    (issueCall s).li.tx = s.li.tx ++ [callTx .call s e] := by
  simp only [issueCall, sendFrame_frame, List.append_cancel_left_eq, List.cons.injEq, and_true] at he
  subst he
  exact sendFrame_joins hc (by simp [ownFrame]) (by simp [ownFrame]) h8

theorem Issues.cons {s t : State} {new : List CallEntry} {e : CallEntry}
    (he : (issueCall s).cl.calls = s.cl.calls ++ [e]) (h : Issues (issueCall s) new t) : Issues s (e :: new) t := by
  obtain ⟨e', he', station, heard, timer, last, serial⟩ := issueCall_calls s
  obtain rfl : e' = e := List.singleton_inj.1 (List.append_cancel_left (he'.symm.trans he))
  obtain ⟨calls, entries, serials, lastSerial, frames⟩ := h
  have setup : (issueCall s).ss = s.ss := by simp
  refine ⟨by rw [calls, he, List.append_assoc]; rfl, ?_, fun k x hx hlt => ?_, ?_, fun hc h8 => ?_⟩
  · refine List.forall_mem_cons.2 ⟨⟨station, heard, timer⟩, fun x hx => ?_⟩
    simpa using entries x hx
  · cases k with
    | zero =>
      obtain rfl : e' = x := by simpa using hx
      rw [serial]
      simpa [lastIssued] using nextCallSerial_next (by simpa using hlt) s.cl.lastSerial
    | succ k =>
      have held : (issueCall s).cl.calls ++ new.take k = s.cl.calls ++ (e' :: new).take (k + 1) := by
        rw [he, List.append_assoc]; rfl
      have next := serials k x (by simpa using hx) (by rw [held]; exact hlt)
      rwa [held, last, ← lastIssued_cons] at next
  · rw [lastSerial, last, lastIssued_cons]
  · simp only [List.length_cons] at h8
    have placed := issueCall_tx he hc (by omega)
    rw [frames (by simpa [configured] using hc) (by simp [placed]; omega), placed, callTx_congr setup,
      List.append_assoc]
    rfl

theorem issueCalls_issues (n : Nat) (s : State) : ∃ new, Issues s new (issueCalls n s) := by
  induction n generalizing s with
  | zero => exact ⟨[], .refl s⟩
  | succ n ih =>
    unfold issueCalls; split
    · obtain ⟨e, he, -⟩ := issueCall_calls s
      obtain ⟨new, h⟩ := ih (issueCall s)
      exact ⟨e :: new, h.cons he⟩
    · exact ⟨[], .refl s⟩

theorem Issues.sum {s t : State} {new : List CallEntry} (h : Issues s new t) (hz : t.zq = s.zq) :
    stationSum t = stationSum s + new.length := by
  simp only [stationSum, h.calls, hz, List.length_append]; omega

/-- CL issues as many calls as bring the sum up to the target. -/
theorem testNeed_issues {s : State} (hr : role s = .load) (hc : configured s = true) (ho : s.cl.stationOpen = true)
    (h : stationSum s ≤ targetEmpties s) :
    ∃ new, Issues s new (testNeed s) ∧ stationSum s + new.length = targetEmpties s := by
  obtain ⟨-, -, noExcess⟩ := withdrawExcess_sum s.cl.calls.length s le_rfl
  have need : testNeed s = issueCalls (targetEmpties s) s := by simp [testNeed, hr, hc, noExcess h]
  obtain ⟨new, issued⟩ := issueCalls_issues (targetEmpties s) s
  obtain ⟨met, bound, -⟩ := issueCalls_sum (targetEmpties s) s
  have reached := met ho (by omega)
  have length := issued.sum (by simp)
  rw [need]
  exact ⟨new, issued, by omega⟩

/-! ## Calls withdrawn (R130, R131) -/

theorem withdrawCall_tx {n : Nat} {s : State} {e : CallEntry} (he : s.cl.calls[n]? = some e)
    (hc : configured s = true) (h8 : s.li.tx.length < 8) :
    (withdrawCall n s).li.tx = s.li.tx ++ [callTx .decline s e] := by
  rw [withdrawCall, he]
  exact sendFrame_joins (s := { s with cl := _ }) hc (by simp [ownFrame]) (by simp [ownFrame]) h8

/-- The calls that the excess over the target leaves outstanding. -/
def keptCalls (s : State) : Nat := s.cl.calls.length - (stationSum s - targetEmpties s)

/-- The newest calls of an excess are withdrawn, newest first, each with a DECLINE. -/
theorem withdrawExcess_newest (n : Nat) {s : State} (hn : s.cl.calls.length ≤ n) (hc : configured s = true) :
    (withdrawExcess n s).cl.calls = s.cl.calls.take (keptCalls s)
      ∧ (s.li.tx.length + (s.cl.calls.length - keptCalls s) ≤ 8 → (withdrawExcess n s).li.tx
        = s.li.tx ++ ((s.cl.calls.drop (keptCalls s)).reverse.map (callTx .decline s))) := by
  induction n generalizing s with
  | zero =>
    have noCalls : s.cl.calls = [] := List.length_eq_zero_iff.1 (Nat.le_zero.1 hn)
    simp [withdrawExcess, noCalls]
  | succ n ih =>
    unfold withdrawExcess; split
    · rename_i excess
      simp only [Bool.and_eq_true, decide_eq_true_eq, Bool.not_eq_true'] at excess
      obtain hnil | ⟨older, e, hcalls⟩ := List.eq_nil_or_concat s.cl.calls
      · simp [hnil] at excess
      have length : s.cl.calls.length = older.length + 1 := by simp [hcalls]
      have newest : s.cl.calls[s.cl.calls.length - 1]? = some e := by simp [hcalls]
      have rest : (withdrawCall (s.cl.calls.length - 1) s).cl.calls = older := by
        rw [withdrawCall_cl, List.eraseIdx_length_sub_one, hcalls, List.concat_eq_append, List.dropLast_concat]
      have sum : stationSum (withdrawCall (s.cl.calls.length - 1) s) + 1 = stationSum s :=
        withdrawCall_sum (by omega)
      have kept : keptCalls (withdrawCall (s.cl.calls.length - 1) s) = keptCalls s := by
        rw [keptCalls, keptCalls, rest, targetEmpties_of_ss (s := s) (by simp)]
        omega
      have fits : keptCalls s ≤ older.length := by unfold keptCalls; omega
      obtain ⟨calls, frames⟩ := ih (s := withdrawCall (s.cl.calls.length - 1) s) (by rw [rest]; omega)
        (by simpa [configured] using hc)
      rw [kept, rest] at calls frames
      refine ⟨by rw [calls, hcalls, List.concat_eq_append, List.take_append_of_le_length fits], fun room => ?_⟩
      have placed := withdrawCall_tx newest hc (by omega)
      rw [frames (by simp only [placed, List.length_append, List.length_singleton]; omega), placed,
        callTx_congr (t := withdrawCall (s.cl.calls.length - 1) s) (s := s) (by simp), hcalls, List.concat_eq_append,
        List.drop_append_of_le_length fits]
      simp
    · rename_i fits
      have all : keptCalls s = s.cl.calls.length := by
        simp only [Bool.and_eq_true, decide_eq_true_eq, Bool.not_eq_true', not_and, List.isEmpty_eq_false_iff,
          not_not] at fits
        by_cases excess : targetEmpties s < stationSum s
        · simp [keptCalls, fits excess]
        · unfold keptCalls; omega
      simp [all]

/-- With an excess or none CL issues no call (R130). -/
theorem testNeed_withdraws {s : State} (hr : role s = .load) (hc : configured s = true)
    (h : targetEmpties s ≤ stationSum s) : testNeed s = withdrawExcess s.cl.calls.length s := by
  obtain ⟨calls, -⟩ := withdrawExcess_newest s.cl.calls.length le_rfl hc
  have target : targetEmpties (withdrawExcess s.cl.calls.length s) = targetEmpties s :=
    targetEmpties_of_ss (by simp)
  have enough : targetEmpties s ≤ stationSum (withdrawExcess s.cl.calls.length s) := by
    simp only [stationSum, calls, withdrawExcess_frame, List.length_take, keptCalls] at h ⊢
    omega
  obtain ⟨-, -, idle⟩ := issueCalls_sum (targetEmpties s) (withdrawExcess s.cl.calls.length s)
  simp only [testNeed, hr, hc, decide_true, Bool.and_self, if_true, target]
  exact idle (.inl (by rw [target]; exact enough))

/-- A closed station without a call has nothing to issue and nothing to withdraw. -/
theorem testNeed_closed {s : State} (ho : s.cl.stationOpen = false) (hn : s.cl.calls = []) : testNeed s = s := by
  have idle : withdrawExcess s.cl.calls.length s = s := by rw [hn]; rfl
  unfold testNeed; split
  · simp only [idle]
    exact (issueCalls_sum _ s).2.2 (.inr ho)
  · rfl

/-- The calls of a station that closes are withdrawn oldest first, each with a DECLINE. -/
theorem withdrawAll_oldest (n : Nat) {s : State} (hn : s.cl.calls.length ≤ n) (hc : configured s = true)
    (room : s.li.tx.length + s.cl.calls.length ≤ 8) :
    (withdrawAll n s).li.tx = s.li.tx ++ s.cl.calls.map (callTx .decline s) := by
  induction n generalizing s with
  | zero =>
    have noCalls : s.cl.calls = [] := List.length_eq_zero_iff.1 (Nat.le_zero.1 hn)
    simp [withdrawAll, noCalls]
  | succ n ih =>
    cases hcalls : s.cl.calls with
    | nil => simp [withdrawAll, hcalls]
    | cons e rest =>
      simp only [hcalls, List.length_cons] at hn room
      have left : (withdrawCall 0 s).cl.calls = rest := by simp [hcalls]
      have placed := withdrawCall_tx (n := 0) (s := s) (e := e) (by simp [hcalls]) hc (by omega)
      rw [withdrawAll, if_neg (by simp [hcalls]), ih (by rw [left]; omega) (by simpa [configured] using hc)
        (by rw [left, placed, List.length_append, List.length_singleton]; omega), placed, left,
        callTx_congr (t := withdrawCall 0 s) (s := s) (by simp)]
      simp

/-! ## OPEN (R131) -/

/-- OPEN has no effect in another role. -/
theorem exec_open_other {s : State} (h : InUse s) (hr : role s ≠ .load) :
    exec .stationOpened s = .next s ∧ exec .stationClosed s = .next s := by
  constructor
  · refine congrArg Host.Outcome.next ?_
    rw [whileRunning_awake h.1]
    simp [hr]
  · refine congrArg Host.Outcome.next ?_
    rw [whileRunning_awake h.1]
    simp [hr]

/-- The station open, before the tests. -/
def opened (s : State) : State := { s with cl := { s.cl with stationOpen := true } }

/-- The station closed, before its calls are withdrawn. -/
def closed (s : State) : State := { s with cl := { s.cl with stationOpen := false } }

@[simp] theorem opened_frame (s : State) :
    (opened s).tb = s.tb ∧ (opened s).li = s.li ∧ (opened s).zq = s.zq ∧ (opened s).su = s.su ∧ (opened s).ma = s.ma
      ∧ (opened s).ss = s.ss ∧ (opened s).pending = s.pending ∧ (opened s).cl.calls = s.cl.calls
      ∧ (opened s).cl.lastSerial = s.cl.lastSerial ∧ (opened s).cl.stationOpen = true
      ∧ configured (opened s) = configured s ∧ role (opened s) = role s ∧ stationSum (opened s) = stationSum s
      ∧ targetEmpties (opened s) = targetEmpties s :=
  ⟨rfl, rfl, rfl, rfl, rfl, rfl, rfl, rfl, rfl, rfl, rfl, rfl, rfl, rfl⟩

@[simp] theorem closed_frame (s : State) :
    (closed s).tb = s.tb ∧ (closed s).li = s.li ∧ (closed s).zq = s.zq ∧ (closed s).su = s.su ∧ (closed s).ma = s.ma
      ∧ (closed s).ss = s.ss ∧ (closed s).pending = s.pending ∧ (closed s).cl.calls = s.cl.calls
      ∧ (closed s).cl.lastSerial = s.cl.lastSerial ∧ (closed s).cl.stationOpen = false
      ∧ configured (closed s) = configured s ∧ role (closed s) = role s ∧ stationSum (closed s) = stationSum s
      ∧ targetEmpties (closed s) = targetEmpties s :=
  ⟨rfl, rfl, rfl, rfl, rfl, rfl, rfl, rfl, rfl, rfl, rfl, rfl, rfl, rfl⟩

theorem exec_stationOpened {s : State} (h : InUse s) (hr : role s = .load) :
    exec .stationOpened s = .next (settle (opened s)) := by
  refine congrArg Host.Outcome.next ?_
  rw [whileRunning_awake h.1]
  simp [hr, h.2, opened]

theorem exec_stationClosed {s : State} (h : InUse s) (hr : role s = .load) :
    exec .stationClosed s = .next (settle (withdrawAll s.cl.calls.length (closed s))) := by
  refine congrArg Host.Outcome.next ?_
  rw [whileRunning_awake h.1]
  simp [hr, h.2, closed]

/-- The state in which the tests of an event evaluate the need. -/
def beforeNeed (s : State) : State := testQuiet (formJudgement s)

@[simp] theorem beforeNeed_frame (s : State) :
    (beforeNeed s).tb = s.tb ∧ (beforeNeed s).li = s.li ∧ (beforeNeed s).zq = s.zq ∧ (beforeNeed s).cl = s.cl
      ∧ (beforeNeed s).ss = s.ss ∧ configured (beforeNeed s) = configured s ∧ role (beforeNeed s) = role s
      ∧ stationSum (beforeNeed s) = stationSum s ∧ targetEmpties (beforeNeed s) = targetEmpties s := by
  simp [beforeNeed, configured, role, stationSum, targetEmpties]

/-- The tests that follow the evaluation of the need place frames after those it placed. -/
theorem settle_placings_need {s : State} (h : configured s = true) :
    Placings (testNeed (beforeNeed s)).li (settle s).li := by
  rw [settle, if_pos h]
  refine .trans ?_ (announce_placings _)
  simpa [beforeNeed] using testOffer_placings (testNeed (beforeNeed s))

theorem Issues.of_same {s u t : State} {new : List CallEntry} (h : Issues u new t) (hc : u.cl.calls = s.cl.calls)
    (hl : u.cl.lastSerial = s.cl.lastSerial) (hs : u.ss = s.ss) (ht : u.tb = s.tb) (hli : u.li = s.li)
    (hu : configured u = configured s) : Issues s new t := by
  obtain ⟨calls, entries, serials, lastSerial, frames⟩ := h
  simp only [hc, hl, hs, ht, hli, hu, callTx_congr hs] at calls entries serials lastSerial frames
  exact ⟨calls, entries, serials, lastSerial, frames⟩

section
variable {s : State} (h : InUse s) (hr : role s = .load)
include h hr

theorem opened_need : targetEmpties (settle (opened s)) ≤ stationSum (settle (opened s)) := by
  have need := settle_needOk (s := opened s) fun ho => by cases ho
  exact (need (by simpa using hr) (by simpa using h.2)).1 (by simp)

/-- A station that opens with no excess issues calls up to the target (R128). -/
theorem opened_issues (hs : stationSum s ≤ targetEmpties s) :
    ∃ new, Issues s new (testNeed (beforeNeed (opened s))) ∧ stationSum s + new.length = targetEmpties s := by
  obtain ⟨new, issued, length⟩ := testNeed_issues (s := beforeNeed (opened s)) (by simpa using hr)
    (by simpa using h.2) (by simp) (by simpa using hs)
  exact ⟨new, issued.of_same (by simp) (by simp) (by simp) (by simp)
    (by simp) (by simp), by simpa using length⟩

/-- A station that opens with an excess withdraws it (R130). -/
theorem opened_withdraws (hs : targetEmpties s ≤ stationSum s) :
    (testNeed (beforeNeed (opened s))).cl.calls = s.cl.calls.take (keptCalls s)
      ∧ (s.li.tx.length + (s.cl.calls.length - keptCalls s) ≤ 8 → (testNeed (beforeNeed (opened s))).li.tx
        = s.li.tx ++ ((s.cl.calls.drop (keptCalls s)).reverse.map (callTx .decline s))) := by
  have inUse : configured (beforeNeed (opened s)) = true := by simpa using h.2
  have kept : keptCalls (beforeNeed (opened s)) = keptCalls s := by simp [keptCalls]
  have taken := withdrawExcess_newest _ (s := beforeNeed (opened s)) le_rfl inUse
  rw [← testNeed_withdraws (by simpa using hr) inUse (by simpa using hs), kept,
    callTx_congr (t := beforeNeed (opened s)) (s := s) (by simp)] at taken
  simpa using taken

end

/-- A station that closes keeps no call and issues none. -/
theorem closed_withdraws {s : State} (h : InUse s) :
    let w := withdrawAll s.cl.calls.length (closed s)
    (settle w).cl.calls = [] ∧ (settle w).cl.lastSerial = s.cl.lastSerial
      ∧ (s.li.tx.length + s.cl.calls.length ≤ 8 →
        (s.cl.calls.map (callTx .decline s)).Sublist (settle w).li.tx) := by
  intro w
  have inUse : configured w = true := (configured_of_sn (s := s) (by simp [w, closed])).trans h.2
  have noCalls : w.cl.calls = [] := withdrawAll_calls (s := closed s) le_rfl
  obtain ⟨calls, lastSerial⟩ := settle_calls inUse
  have need : testNeed (beforeNeed w) = beforeNeed w := testNeed_closed (by simp [w]) (by simpa using noCalls)
  rw [← beforeNeed, need] at calls lastSerial
  refine ⟨by simpa [calls] using noCalls, lastSerial.trans (by simp [w]), fun room => ?_⟩
  refine placings_callTx (by decide) (settle_placings w) ?_
  have frames : w.li.tx = s.li.tx ++ s.cl.calls.map (callTx .decline s) :=
    withdrawAll_oldest _ (s := closed s) le_rfl h.2 room
  rw [frames]
  exact List.sublist_append_right ..

/-- Settles O12: the tests of the event evaluate the need of a station that opens, which has an excess to withdraw or
calls to issue; a station that closes withdraws its calls before the tests, which find nothing more to do. -/
theorem openSwitchIssuesAndWithdrawsCalls : Obligations.OpenSwitchIssuesAndWithdrawsCalls := by
  intro s h call kept
  refine ⟨exec_open_other h, fun hr => ⟨?_, ?_⟩⟩
  · have inUse : configured (opened s) = true := h.2
    obtain ⟨calls, lastSerial⟩ := settle_calls inUse
    have after := settle_placings_need inUse
    refine ⟨_, exec_stationOpened h hr, by simp, opened_need h hr, fun hs => ?_, fun hs => ?_, by simp,
      by simp, by simp, by simp, by simp⟩
    · obtain ⟨new, issued, length⟩ := opened_issues h hr hs
      have held : s.cl.calls.length ≤ stationSum s := Nat.le_add_left ..
      refine ⟨new, calls.trans issued.calls, by omega, fun e he => ?_, issued.serials,
        lastSerial.trans issued.lastSerial, fun room => ?_⟩
      · obtain ⟨station, heard, timer⟩ := issued.entries e he
        refine ⟨?_, heard, timer⟩
        rw [station]
        cases runningStation s.ss.running <;> rfl
      · refine placings_callTx (k := .call) (by decide) after ?_
        rw [issued.frames h.2 room]
        exact List.sublist_append_right ..
    · obtain ⟨withdrawn, frames⟩ := opened_withdraws h hr hs
      refine ⟨calls.trans withdrawn, fun room => ?_⟩
      refine placings_callTx (k := .decline) (by decide) after ?_
      rw [frames room]
      exact List.sublist_append_right ..
  · obtain ⟨calls, lastSerial, frames⟩ := closed_withdraws h
    exact ⟨_, exec_stationClosed h hr, by simp, calls, lastSerial, frames, by simp, by simp,
      by simp, by simp, by simp⟩

end Sys2Proof.CallProofs
end

section
/-! The zone line (chapter 9): the proofs. -/

namespace Sys2Proof.LineProofs
open Sys2Proof.Machine
open Sys2Proof.ExitProofs (withList)

/-! # The frame being sent

## Its place in the transmit list (R145, R146) -/

/-- An entry of the transmit list is the one being sent, the oldest that is. -/
structure BeingSent (s : State) (before : List TxEntry) (e : TxEntry) (after : List TxEntry) : Prop where
  list : s.li.tx = before ++ e :: after
  waiting : ∀ x ∈ before, x.sending = false
  sending : e.sending = true

/-- No frame is being sent. -/
def Idle (s : State) : Prop := ∀ x ∈ s.li.tx, x.sending = false

theorem idle_or_beingSent (s : State) : Idle s ∨ ∃ before e after, BeingSent s before e after := by
  cases hf : s.li.tx.find? (·.sending) with
  | none => exact .inl (by simpa [Idle] using hf)
  | some e =>
    obtain ⟨sending, before, after, list, waiting⟩ := List.find?_eq_some_iff_append.1 hf
    exact .inr ⟨before, e, after, list, by simpa using waiting, sending⟩

theorem Idle.place {s : State} (h : Idle s) : sendingPlace s = none := Laws.findIdx?_absent h

theorem Idle.entry {s : State} (h : Idle s) : sendingEntry s = none := by simp [sendingEntry, h.place]

section
variable {s : State} {before after : List TxEntry} {e : TxEntry} (h : BeingSent s before e after)
include h

theorem BeingSent.place : sendingPlace s = some before.length := by
  rw [sendingPlace, h.list]
  exact Laws.findIdx?_middle after h.waiting h.sending

theorem BeingSent.entry : sendingEntry s = some (before.length, e) := by simp [sendingEntry, h.place, h.list]

end

/-! ## How its entry changes, and how it leaves (R145) -/

theorem changeEntry_middle {s : State} {before after : List TxEntry} {e : TxEntry}
    (h : s.li.tx = before ++ e :: after) (f : TxEntry → TxEntry) :
    changeEntry f before.length s = withList (before ++ f e :: after) s := by
  rw [changeEntry, h, Laws.modify_middle]
  rfl

/-- The list after a frame has left it: a STATE's replacement joins it as its newest frame. -/
def leftBy (before : List TxEntry) (e : TxEntry) (after : List TxEntry) : List TxEntry :=
  before ++ after ++ (e.replacement.map freshEntry).toList

theorem leaveList_leftBy {s : State} {before after : List TxEntry} {e : TxEntry}
    (h : s.li.tx = before ++ e :: after) : leaveList before.length e s = withList (leftBy before e after) s := by
  simp only [leaveList, leftBy, h, Laws.eraseIdx_middle]
  cases e.replacement <;> simp [withList]

theorem stoppedEntry_replaced {e : TxEntry} {f : Frame} (h : e.replacement = some f) :
    stoppedEntry e = freshEntry f := by simp [stoppedEntry, h]

theorem stoppedEntry_kept {e : TxEntry} (h : e.replacement = none) :
    stoppedEntry e = { e with sending := false } := by simp [stoppedEntry, h]

/-! ## The frame sent next (R145) -/

theorem nextFrom_lt {best : Nat × TxEntry} {n : Nat} (h : best.1 < n) (l : List TxEntry) :
    nextFrom best n l < n + l.length := by
  induction l generalizing best n with
  | nil => simpa [nextFrom] using h
  | cons e rest ih =>
    rw [nextFrom, List.length_cons]
    split
    · have := ih (best := (n, e)) (n := n + 1) (by simp)
      omega
    · have := ih (best := best) (n := n + 1) (by omega)
      omega

/-- LI starts a frame of its list. -/
theorem nextToSend_middle {l : List TxEntry} {n : Nat} (h : nextToSend l = some n) :
    ∃ before e after, l = before ++ e :: after ∧ before.length = n := by
  cases l with
  | nil => cases h
  | cons first rest =>
    have place : nextFrom (0, first) 1 rest = n := by simpa [nextToSend] using h
    have inList : n < (first :: rest).length := by
      have := nextFrom_lt (best := (0, first)) (n := 1) (by simp) rest
      rw [List.length_cons]; omega
    refine ⟨(first :: rest).take n, (first :: rest)[n], (first :: rest).drop (n + 1), ?_, ?_⟩
    · rw [← List.drop_eq_getElem_cons, List.take_append_drop]
    · exact List.length_take_of_le inList.le

/-! # Every step keeps the transmit list within its bounds

## Lists within the bounds (R145, R147) -/

/-- What TransmitOk asks of an entry. -/
def EntryOk (e : TxEntry) : Prop :=
  e.attempts < 8 ∧ (e.replacement.all fun f => f.kind == .state && e.frame.kind == .state) = true

/-- What TransmitOk asks of the list. -/
structure ListOk (l : List TxEntry) : Prop where
  length : l.length ≤ 8
  states : l.countP (hasKind .state) ≤ 1
  notices : l.countP (hasKind .notice) ≤ 3
  oneSent : l.countP (·.sending) ≤ 1
  entries : ∀ e ∈ l, EntryOk e

theorem transmitOk_iff (li : LineInterface) : TransmitOk li ↔ ListOk li.tx :=
  ⟨fun ⟨length, states, notices, oneSent, entries⟩ => ⟨length, states, notices, oneSent, entries⟩,
    fun ⟨length, states, notices, oneSent, entries⟩ => ⟨length, states, notices, oneSent, entries⟩⟩

theorem ListOk.sublist {l l' : List TxEntry} (h : ListOk l) (hs : l'.Sublist l) : ListOk l' where
  length := hs.length_le.trans h.length
  states := hs.countP_le.trans h.states
  notices := hs.countP_le.trans h.notices
  oneSent := hs.countP_le.trans h.oneSent
  entries e he := h.entries e (hs.subset he)

theorem ListOk.perm {l l' : List TxEntry} (h : ListOk l) (hp : l.Perm l') : ListOk l' where
  length := hp.length_eq ▸ h.length
  states := hp.countP_eq _ ▸ h.states
  notices := hp.countP_eq _ ▸ h.notices
  oneSent := hp.countP_eq _ ▸ h.oneSent
  entries e he := h.entries e (hp.mem_iff.2 he)

/-- An entry may change within its bounds when its kind stays and no second frame is being sent by it. -/
theorem ListOk.change {before after : List TxEntry} {e e' : TxEntry} (h : ListOk (before ++ e :: after))
    (he : EntryOk e') (hk : e'.frame.kind = e.frame.kind)
    (hs : (before ++ e' :: after).countP (·.sending) ≤ 1) : ListOk (before ++ e' :: after) where
  length := by simpa using h.length
  states := by simpa [List.countP_cons, hasKind, hk] using h.states
  notices := by simpa [List.countP_cons, hasKind, hk] using h.notices
  oneSent := hs
  entries x hx := by
    rcases List.mem_append.1 hx with hb | ha
    · exact h.entries x (by simp [hb])
    · rcases List.mem_cons.1 ha with rfl | ha
      · exact he
      · exact h.entries x (by simp [ha])

/-- An entry that is not being sent adds nothing to the frames being sent. -/
theorem ListOk.still {before after : List TxEntry} {e e' : TxEntry} (h : ListOk (before ++ e :: after))
    (he : EntryOk e') (hk : e'.frame.kind = e.frame.kind) (hs : e'.sending = false) :
    ListOk (before ++ e' :: after) := by
  have oneSent := h.oneSent
  simp only [List.countP_append, List.countP_cons] at oneSent
  refine h.change he hk ?_
  simp only [List.countP_append, List.countP_cons, hs, Bool.false_eq_true, if_false]
  omega

theorem ListOk.start {before after : List TxEntry} {e : TxEntry} (h : ListOk (before ++ e :: after))
    (hs : ∀ x ∈ before ++ e :: after, x.sending = false) :
    ListOk (before ++ { e with sending := true } :: after) := by
  have waiting : before.countP (·.sending) = 0 ∧ after.countP (·.sending) = 0 := by
    simp only [List.countP_eq_zero, Bool.not_eq_true]
    exact ⟨fun x hx => hs x (by simp [hx]), fun x hx => hs x (by simp [hx])⟩
  refine h.change (h.entries e (by simp)) rfl ?_
  simp [waiting]

/-- A replacement is a STATE in place of a STATE. -/
theorem EntryOk.replacement {e : TxEntry} {f : Frame} (h : EntryOk e) (hr : e.replacement = some f) :
    f.kind = e.frame.kind := by
  obtain ⟨-, states⟩ := h
  simp only [hr, Option.all_some, Bool.and_eq_true, beq_iff_eq] at states
  rw [states.1, states.2]

theorem entryOk_freshEntry (f : Frame) : EntryOk (freshEntry f) := ⟨by simp [freshEntry], rfl⟩

theorem ListOk.stopped {before after : List TxEntry} {e : TxEntry} (h : ListOk (before ++ e :: after)) :
    ListOk (before ++ stoppedEntry e :: after) := by
  have entry : EntryOk e := h.entries e (by simp)
  cases hr : e.replacement with
  | none => rw [stoppedEntry_kept hr]; exact h.still entry rfl rfl
  | some f =>
    rw [stoppedEntry_replaced hr]
    exact h.still (entryOk_freshEntry f) (entry.replacement hr) rfl

/-- A frame that leaves makes place for its replacement. -/
theorem ListOk.left {before after : List TxEntry} {e : TxEntry} (h : ListOk (before ++ e :: after)) :
    ListOk (leftBy before e after) := by
  rw [leftBy]
  cases hr : e.replacement with
  | none => simpa using h.sublist (by simp)
  | some f =>
    have stopped := h.stopped
    rw [stoppedEntry_replaced hr] at stopped
    refine stopped.perm ?_
    exact List.perm_middle.trans (List.perm_append_singleton _ (before ++ after)).symm

/-! ## Operations that place frames and do nothing else to LI -/

/-- A frame placed once another block has changed. -/
theorem sendFrame_placings_of {s u : State} (f : Frame) (h : u.li = s.li := by rfl) :
    Placings s.li (sendFrame f u).li :=
  h ▸ sendFrame_placings f u

theorem sendNotice_placings_of {s u : State} (k : NoticeKind) (d : Byte) (t v : Word16)
    (h : u.li = s.li := by rfl) : Placings s.li (sendNotice k d t v u).li :=
  sendFrame_placings_of _ h

theorem rackAtInlet_placings (inlet : Inlet) (s : State) : Placings s.li (rackAtInlet inlet s).li := by
  unfold rackAtInlet; split
  · have latched := latchFault_placings .overfull (inletDetail inlet s) 0 (inletValue inlet) s
    simp only [overfull]; split
    · exact latched
    · exact latched.trans (loseExpected_placings _ _)
  split
  · unfold arrive; split <;> simpa using Placings.done
  · exact makeStray_placings ..

theorem rackGoneFromExit_placings (s : State) : Placings s.li (rackGoneFromExit s).li := by
  unfold rackGoneFromExit; split
  · exact .done
  split
  · simpa using Placings.done
  · exact removeHead_placings s

theorem pressEmpty_placings (s : State) : Placings s.li (pressEmpty s).li := by
  unfold pressEmpty; split
  · exact .done
  split
  · exact .done
  split
  · exact sendNotice_placings ..
  · simpa using Placings.done

theorem applyRead_placings (value : Word16) (s : State) : Placings s.li (applyRead value s).li := by
  unfold applyRead; split
  · exact .done
  simp only []; split
  · exact .done
  · exact sendNotice_placings_of _ _ _ _

theorem sendStop_placings (s : State) : Placings s.li (sendStop s).li := sendFrame_placings _ s

theorem pressEstop_placings (s : State) : Placings s.li (pressEstop s).li :=
  sendFrame_placings_of _

theorem releaseEstop_placings (s : State) : Placings s.li (releaseEstop s).li :=
  sendFrame_placings_of _

theorem repeatNotice_placings (k : FaultKind) (f : LatchedFault) (s : State) :
    Placings s.li (repeatNotice k f s).li := sendNotice_placings_of _ _ _ _

theorem releaseStuck_placings (s : State) : Placings s.li (releaseStuck s).li :=
  (recallOffer_placings false s).trans (latchFault_placings ..)

theorem loseNeighbour_placings (zone : Addr) (s : State) : Placings s.li (loseNeighbour zone s).li :=
  sendNotice_placings_of _ _ _ _

theorem repeatCall_placings (e : CallEntry) (s : State) : Placings s.li (repeatCall e s).li :=
  sendFrame_placings_of _

theorem completeWrite_placings (w : WriteCycle) (s : State) : Placings s.li (completeWrite w s).li :=
  sendFrame_placings_of _

theorem takeSample_placings (probe current : AdcCode) (s : State) :
    Placings s.li (takeSample probe current s).li := by
  have judged := judgeCurrent_placings (currentOf (itemNat s.ss.running .iSpan) current) (convert probe current s)
  rw [(convert_frame probe current s).2.2.1] at judged
  simp only [takeSample]; split
  · split
    · exact judged.trans (faultedSample_placings _ _)
    · simpa using judged
  · exact judged

theorem testDuplicate_placings (f : Frame) (s : State) : Placings s.li (testDuplicate f s).li := by
  unfold testDuplicate; split
  · exact latchFault_placings ..
  · exact .done

theorem decideWrite_placings (source target : Addr) (item : Byte) (value : Word16) (s : State) :
    Placings s.li (decideWrite source target item value s).li := by
  unfold decideWrite; split
  · exact sendFrame_placings_of _
  · exact .done

theorem addStop_placings (a : Addr) (s : State) : Placings s.li (addStop a s).li := by
  unfold addStop; split <;> exact .done

theorem removeStop_placings (a : Addr) (s : State) : Placings s.li (removeStop a s).li := by
  unfold removeStop; (repeat' split) <;> exact .done

theorem setEntryEye_li (inlet : Inlet) (b : Bool) (s : State) : (setEntryEye inlet b s).li = s.li := by
  cases inlet <;> rfl

/-- The tests of an event place frames after those the event placed. -/
theorem settled_placings {li : LineInterface} {s : State} (h : Placings li s.li) : Placings li (settle s).li :=
  h.trans (settle_placings s)

/-! ## Frames received, and the reset that one may bring (R148 to R150, R156) -/

/-- A reset leaves LI with nothing but the node's first STATE (R67, R161). -/
theorem resetNode_transmitOk (cause : ResetCause) (s : State) : TransmitOk (resetNode cause s).li := by
  have empty : TransmitOk LineInterface.reset := by decide
  simp only [resetNode]; split
  · exact (placeState_placings _).ok empty
  · exact empty

theorem takePass_transmitOk (source : Addr) (body : List Byte) {s : State} (h : TransmitOk s.li) :
    TransmitOk (takePass source body s).li := by
  unfold takePass; split
  · exact h
  · exact (settled_placings (joinExpected_placings ..)).ok h

theorem takeRecall_transmitOk (source : Addr) (serial : Byte) {s : State} (h : TransmitOk s.li) :
    TransmitOk (takeRecall source serial s).li := by
  unfold takeRecall; split
  · exact h
  · exact (settled_placings (by simpa using Placings.done)).ok h

theorem takeSettled_transmitOk (station serial : Byte) {s : State} (h : TransmitOk s.li) :
    TransmitOk (takeSettled station serial s).li := by
  unfold takeSettled; split
  · exact h
  split
  · exact (settle_placings { s with cl := _ }).ok h
  · exact h

theorem takeCall_transmitOk (station serial : Byte) {s : State} (h : TransmitOk s.li) :
    TransmitOk (takeCall station serial s).li := by
  unfold takeCall; split
  · exact (settled_placings (by simpa using Placings.done)).ok h
  · exact h

theorem takeState_transmitOk (source : Addr) (b : StateBody) {s : State} (h : TransmitOk s.li) :
    TransmitOk (takeState source b s).li := by
  unfold takeState; split
  · exact (settled_placings (by simpa using Placings.done)).ok h
  · exact h

theorem takeClear_transmitOk (code : Byte) {s : State} (h : TransmitOk s.li) : TransmitOk (takeClear code s).li :=
  (settle_placings (unlatch code s)).ok h

theorem takeAsk_transmitOk (source target : Addr) (topic index : Byte) {s : State} (h : TransmitOk s.li) :
    TransmitOk (takeAsk source target topic index s).li := by
  simp only [takeAsk]; split
  · simp only [replyToAsk]; split
    · exact resetNode_transmitOk ..
    · exact (sendFrame_placings _ (driveSlot .ack s)).ok h
  · exact h

theorem takeSetup_transmitOk (source : Addr) {effect : State → State} {s : State} (h : TransmitOk s.li)
    (he : Placings s.li (effect s).li) : TransmitOk (takeSetup source effect s).li := by
  unfold takeSetup; split
  · exact he.ok h
  · exact h

theorem deliver_transmitOk (f : Frame) {s : State} (h : TransmitOk s.li) : TransmitOk (deliver f s).li := by
  unfold deliver; split
  · exact (settled_placings (changeTerms_placings (addStop_placings ..))).ok h
  · exact (settled_placings (changeTerms_placings (removeStop_placings ..))).ok h
  · exact takePass_transmitOk _ _ h
  · exact takeRecall_transmitOk _ _ h
  · exact takeSettled_transmitOk _ _ h
  · exact takeSettled_transmitOk _ _ h
  · exact takeCall_transmitOk _ _ h
  · exact takeState_transmitOk _ _ h
  · exact takeAsk_transmitOk _ _ _ _ h
  · exact takeClear_transmitOk _ h
  · exact takeSetup_transmitOk _ h .done
  · exact takeSetup_transmitOk _ h (decideWrite_placings ..)
  · exact takeSetup_transmitOk _ h (sendFrame_placings ..)
  all_goals exact h

theorem deliverAtSetup_transmitOk (f : Frame) {s : State} (h : TransmitOk s.li) :
    TransmitOk (deliverAtSetup f s).li := by
  unfold deliverAtSetup; split
  · exact deliver_transmitOk f h
  · exact h

theorem takeGood_transmitOk (f : Frame) {s : State} (h : TransmitOk s.li) : TransmitOk (takeGood f s).li := by
  unfold takeGood; split
  · split <;> exact h
  split
  · exact deliver_transmitOk f h
  split
  · exact deliverAtSetup_transmitOk f h
  · exact h

theorem acceptGood_transmitOk (f : Frame) {s : State} (h : TransmitOk s.li) : TransmitOk (acceptGood f s).li := by
  unfold acceptGood; split
  · exact h
  split
  · exact takeGood_transmitOk f ((testDuplicate_placings f s).ok h)
  split
  · exact deliverAtSetup_transmitOk f h
  · exact h

theorem receiveFrame_transmitOk (f : Frame) {s : State} (h : TransmitOk s.li) :
    TransmitOk (receiveFrame f s).li := by
  unfold receiveFrame; split
  · exact h
  split
  · exact acceptGood_transmitOk f (s := frameHeard s) h
  · exact h

theorem receiveLine_transmitOk (f : LineFrame) {s : State} (h : TransmitOk s.li) :
    TransmitOk (receiveLine f s).li := by
  unfold receiveLine; split
  · exact h
  split
  · exact h
  · exact receiveFrame_transmitOk f.frame h

/-! ## Frames sent (R145 to R147, R156) -/

theorem tellOwner_transmitOk (outcome : SendOutcome) (f : Frame) {s : State} (h : TransmitOk s.li) :
    TransmitOk (tellOwner outcome f s).li := by
  unfold tellOwner; split
  · exact resetNode_transmitOk ..
  split
  · refine (settled_placings ?_).ok h
    cases outcome with
    | acknowledged => exact acceptOffer_placings ..
    | held | failed => simpa using Placings.done
  · exact h

section
variable {s : State} {before after : List TxEntry} {e : TxEntry} (h : BeingSent s before e after)
  (ok : TransmitOk s.li)
include h ok

theorem BeingSent.listOk : ListOk (before ++ e :: after) := h.list ▸ (transmitOk_iff s.li).1 ok

theorem BeingSent.stopped_transmitOk : TransmitOk (changeEntry stoppedEntry before.length s).li := by
  rw [changeEntry_middle h.list]
  exact (transmitOk_iff _).2 (h.listOk ok).stopped

theorem BeingSent.leaveList_transmitOk : TransmitOk (leaveList before.length e s).li := by
  rw [leaveList_leftBy h.list]
  exact (transmitOk_iff _).2 (h.listOk ok).left

theorem BeingSent.failFrame_transmitOk : TransmitOk (failFrame before.length e s).li := by
  refine tellOwner_transmitOk _ _ ?_
  split
  · exact h.leaveList_transmitOk ok
  · exact (sendNotice_placings _ _ _ _ { leaveList before.length e s with li := _ }).ok (h.leaveList_transmitOk ok)

/-- An attempt is counted only below the eighth (R147). -/
theorem BeingSent.failAttempt_transmitOk : TransmitOk (failAttempt before.length e s).li := by
  obtain ⟨-, replacement⟩ := (h.listOk ok).entries e (by simp)
  unfold failAttempt; split
  · exact h.stopped_transmitOk ok
  split
  · exact h.failFrame_transmitOk ok
  · rename_i below
    rw [changeEntry_middle h.list]
    exact (transmitOk_iff _).2 ((h.listOk ok).still ⟨not_le.1 below, replacement⟩ rfl rfl)

end

/-! ## Every command -/

/-- The next state that a command answers has its transmit list within the bounds. -/
def AnswerOk (a : Answer) : Prop := ∀ t, a = .next t → TransmitOk t.li

theorem answerOk_next {t : State} (h : TransmitOk t.li) : AnswerOk (.next t) := by
  rintro _ ⟨⟩
  exact h

theorem onExpiry_placings (o : Option Timer) {f : State → State} (h : ∀ u, Placings u.li (f u).li) (s : State) :
    Placings s.li (onExpiry o f s).li := by
  unfold onExpiry; split
  · exact .done
  · rename_i timer
    simpa using h (reachExpiry timer s)

section Commands

variable {s : State} (h : TransmitOk s.li)
include h

theorem answerOk_running {f : State → State} (hf : TransmitOk (f s).li) : AnswerOk (.next (whileRunning f s)) := by
  refine answerOk_next ?_
  unfold whileRunning; split
  · exact h
  · exact hf

theorem answerOk_places {f : State → State} (hf : Placings s.li (f s).li) : AnswerOk (.next (whileRunning f s)) :=
  answerOk_running h (hf.ok h)

theorem answerOk_expiry (o : Option Timer) {f : State → State} (hf : ∀ u, Placings u.li (f u).li) :
    AnswerOk (.next (whileRunning (fun s => onExpiry o f s) s)) :=
  answerOk_places h (onExpiry_placings o hf s)

theorem execResetnAsserted_ok : AnswerOk (execResetnAsserted s) := by
  obtain ⟨length, states, notices, -, entries⟩ := (transmitOk_iff s.li).1 h
  refine answerOk_next ((transmitOk_iff _).2 ⟨?_, ?_, ?_, ?_, ?_⟩)
  · simpa [stopDriving] using length
  · exact (List.countP_map ..).trans_le states
  · exact (List.countP_map ..).trans_le notices
  · simp [stopDriving, List.countP_map, Function.comp_def]
  · intro x hx
    obtain ⟨e, he, rfl⟩ := List.mem_map.1 hx
    exact entries e he

theorem execEntryEyeBlocked_ok (inlet : Inlet) : AnswerOk (execEntryEyeBlocked inlet s) := by
  have seen : Placings s.li (setEntryEye inlet true s).li := by rw [setEntryEye_li]; exact .done
  refine answerOk_places h ?_
  simp only []; split
  · exact settled_placings (seen.trans (rackAtInlet_placings ..))
  · exact seen

theorem execExitEyeBlocked_ok : AnswerOk (execExitEyeBlocked s) := by
  refine answerOk_places h (settled_placings ?_)
  split
  · exact makeStray_placings 0 0 (setExitEye true s)
  · exact .done

theorem execExitEyeClear_ok : AnswerOk (execExitEyeClear s) := by
  refine answerOk_places h (settled_placings ?_)
  split
  · exact rackGoneFromExit_placings (setExitEye false s)
  · exact .done

theorem execRackFullPress_ok : AnswerOk (execRackFullPress s) := by
  refine answerOk_places h ?_
  split
  · exact settled_placings (by simpa using Placings.done)
  · exact .done

theorem execRackEmptyPress_ok : AnswerOk (execRackEmptyPress s) := by
  refine answerOk_places h ?_
  split
  · exact settled_placings (pressEmpty_placings s)
  · exact .done

theorem execStationOpened_ok : AnswerOk (execStationOpened s) := by
  refine answerOk_places h ?_
  split
  · exact settled_placings .done
  · exact .done

theorem execStationClosed_ok : AnswerOk (execStationClosed s) := by
  refine answerOk_places h ?_
  split
  · exact settled_placings (withdrawAll_placings _ { s with cl := { s.cl with stationOpen := false } })
  · exact .done

theorem execTagRead_ok (value : Word16) : AnswerOk (execTagRead value s) := by
  refine answerOk_places h ?_
  split
  · exact applyRead_placings value s
  · exact .done

theorem execEstopReleased_ok : AnswerOk (execEstopReleased s) := by
  refine answerOk_places h ?_
  split <;> exact .done

theorem execStartHoldExpiry_ok : AnswerOk (execStartHoldExpiry s) := by
  refine answerOk_expiry h _ fun u => settled_placings ?_
  have ended : Placings u.li (changeTerms (fun s => { s with sn := { s.sn with startHold := none } }) u).li :=
    changeTerms_placings .done
  simp only []; split <;> exact ended

theorem execQuietTimerExpiry_ok : AnswerOk (execQuietTimerExpiry s) := by
  refine answerOk_places h ?_
  split
  · refine onExpiry_placings _ (fun u => settled_placings ?_) s
    exact .done
  · exact .done

theorem execArrivalWindowExpiry_ok (n : Nat) : AnswerOk (execArrivalWindowExpiry n s) := by
  refine answerOk_places h ?_
  split
  · exact .done
  · exact onExpiry_placings _ (fun u => settled_placings (loseExpected_placings n u)) s

theorem execDiverterTravelExpiry_ok : AnswerOk (execDiverterTravelExpiry s) := by
  refine answerOk_places h ?_
  split
  · refine onExpiry_placings _ (fun u => settled_placings (s := travelDone u) ?_) s
    simpa using Placings.done
  · exact .done

theorem execReleaseLimitExpiry_ok : AnswerOk (execReleaseLimitExpiry s) := by
  refine answerOk_places h ?_
  split
  · exact onExpiry_placings _ (fun u => settled_placings (releaseStuck_placings u)) s
  · exact .done

theorem execNeighbourSilenceExpiry_ok (z : Addr) : AnswerOk (execNeighbourSilenceExpiry z s) := by
  refine answerOk_places h ?_
  split
  · exact .done
  · exact onExpiry_placings _ (fun u => settled_placings (loseNeighbour_placings z u)) s

theorem execNoticeRepeatExpiry_ok (k : FaultKind) : AnswerOk (execNoticeRepeatExpiry k s) := by
  refine answerOk_places h ?_
  split
  · exact .done
  · exact onExpiry_placings _ (repeatNotice_placings k _) s

theorem execCallRepeatExpiry_ok (n : Byte) : AnswerOk (execCallRepeatExpiry n s) := by
  refine answerOk_places h ?_
  split
  · exact onExpiry_placings _ (repeatCall_placings _) s
  · exact .done

theorem execCallExpiry_ok (st : Station) (n : Byte) : AnswerOk (execCallExpiry st n s) := by
  refine answerOk_places h ?_
  split
  · refine onExpiry_placings _ (fun u => settled_placings ?_) s
    exact .done
  · exact .done

theorem execWriteCycleCompletion_ok : AnswerOk (execWriteCycleCompletion s) := by
  refine answerOk_places h ?_
  split
  · exact .done
  · exact onExpiry_placings _ (completeWrite_placings _) s

theorem execFrameSendStart_ok : AnswerOk (execFrameSendStart s) := by
  refine answerOk_running h ?_
  split
  case isFalse => exact h
  rename_i free
  split
  · exact h
  · rename_i next
    obtain ⟨before, e, after, list, rfl⟩ := nextToSend_middle next
    have idle : ∀ x ∈ before ++ e :: after, x.sending = false := by
      rw [← list]
      simpa using (Bool.and_eq_true_iff.1 free).2
    have bounded : ListOk (before ++ e :: after) := list ▸ (transmitOk_iff s.li).1 h
    rw [changeEntry_middle list]
    exact (transmitOk_iff _).2 (bounded.start idle)

theorem execArbitrationLost_ok : AnswerOk (execArbitrationLost s) := by
  refine answerOk_running h ?_
  rcases idle_or_beingSent s with idle | ⟨before, e, after, sent⟩
  · simpa only [idle.place] using h
  · simpa only [sent.place] using sent.stopped_transmitOk h

theorem execSelfCheckError_ok : AnswerOk (execSelfCheckError s) := by
  refine answerOk_running h ?_
  rcases idle_or_beingSent s with idle | ⟨before, e, after, sent⟩
  · simpa only [idle.entry] using h
  · have aborted : BeingSent (sendAbort s) before e after := { sent with }
    simpa only [sent.entry] using aborted.failAttempt_transmitOk h

theorem execBroadcastSent_ok : AnswerOk (execBroadcastSent s) := by
  refine answerOk_running h ?_
  rcases idle_or_beingSent s with idle | ⟨before, e, after, sent⟩
  · simpa only [idle.entry] using h
  · simp only [sent.entry]; split
    · exact sent.leaveList_transmitOk h
    · exact h

theorem execReplySlotRead_ok (ack hold : Bool) : AnswerOk (execReplySlotRead ack hold s) := by
  refine answerOk_running h ?_
  rcases idle_or_beingSent s with idle | ⟨before, e, after, sent⟩
  · simpa only [idle.entry] using h
  · simp only [sent.entry]; split
    · exact h
    split
    · exact tellOwner_transmitOk _ _ (sent.leaveList_transmitOk h)
    split
    · exact tellOwner_transmitOk _ _ (sent.leaveList_transmitOk h)
    · exact sent.failAttempt_transmitOk h

/-- Every command keeps the transmit list within its bounds. -/
theorem exec_answerOk (c : Instr) : AnswerOk (exec c s) := by
  cases c with
  | powerReset | pinReset => exact answerOk_next (resetNode_transmitOk ..)
  | resetnAsserted => exact execResetnAsserted_ok h
  | entryEyeBlocked inlet => exact execEntryEyeBlocked_ok h inlet
  | entryEyeClear inlet => exact answerOk_places h (settled_placings (by rw [setEntryEye_li]; exact .done))
  | exitEyeBlocked => exact execExitEyeBlocked_ok h
  | exitEyeClear => exact execExitEyeClear_ok h
  | rackFullPress => exact execRackFullPress_ok h
  | rackEmptyPress => exact execRackEmptyPress_ok h
  | stationOpened => exact execStationOpened_ok h
  | stationClosed => exact execStationClosed_ok h
  | tagRead value => exact execTagRead_ok h value
  | estopReleased => exact execEstopReleased_ok h
  | estopActive => exact answerOk_places h (settled_placings (changeTerms_placings (pressEstop_placings s)))
  | setupButtonPress => exact answerOk_places h .done
  | startHoldExpiry => exact execStartHoldExpiry_ok h
  | quietTimerExpiry => exact execQuietTimerExpiry_ok h
  | estopReleaseExpiry =>
    exact answerOk_expiry h _ fun u => settled_placings (changeTerms_placings (releaseEstop_placings u))
  | stopRepeatExpiry => exact answerOk_expiry h _ sendStop_placings
  | tagReadWindowExpiry | setupWindowExpiry => exact answerOk_expiry h _ fun u => .done
  | arrivalWindowExpiry n => exact execArrivalWindowExpiry_ok h n
  | holdOffExpiry | runOnExpiry => exact answerOk_expiry h _ fun u => settled_placings .done
  | diverterTravelExpiry => exact execDiverterTravelExpiry_ok h
  | releaseLimitExpiry => exact execReleaseLimitExpiry_ok h
  | neighbourSilenceExpiry z => exact execNeighbourSilenceExpiry_ok h z
  | statePeriodExpiry => exact answerOk_expiry h _ placeState_placings
  | sampleCompletion probe current => exact answerOk_expiry h _ (takeSample_placings probe current)
  | callRepeatExpiry n => exact execCallRepeatExpiry_ok h n
  | callExpiry st n => exact execCallExpiry_ok h st n
  | noticeRepeatExpiry k => exact execNoticeRepeatExpiry_ok h k
  | writeCycleCompletion => exact execWriteCycleCompletion_ok h
  | lineReleased => exact answerOk_running h h
  | lineBusy | insertionError | abortMark =>
    refine answerOk_running h ?_
    split <;> exact h
  | frameSendStart => exact execFrameSendStart_ok h
  | arbitrationLost => exact execArbitrationLost_ok h
  | selfCheckError => exact execSelfCheckError_ok h
  | broadcastSent => exact execBroadcastSent_ok h
  | replySlotRead ack hold => exact execReplySlotRead_ok h ack hold
  | receiveError f => exact answerOk_running h (receiveLine_transmitOk f h)
  | frameIgnored | stopReceived | goReceived | passReceived | recallReceived | stateReceived | callReceived
  | answerReceived | declineReceived | noticeReceived | replyReceived | clear | askStatus | askCounts | askQueue
  | askExpected | askCalls | askNeighbour | askRunning | askRestart | setupEnable | setupWrite | setupRead
  | askTopicOutsideRange => exact answerOk_running h (receiveFrame_transmitOk _ h)

/-- A step of the time base is a due expiry or a millisecond (R8). -/
theorem idle_answerOk : AnswerOk (idle s) := by
  unfold idle; split
  · exact answerOk_next h
  · exact exec_answerOk h _
  · exact exec_answerOk h _

end Commands

/-- Settles O53: a frame is placed within the bounds; the entry of the frame being sent waits again, leaves the list or
gives way to a replacement of its own kind; and a reset empties the list. -/
theorem stepKeepsTheTransmitList : Obligations.StepKeepsTheTransmitList := by
  intro s t h hs
  unfold step at hs; split at hs
  · exact idle_answerOk h t hs
  · rename_i c rest _
    exact exec_answerOk (s := { s with pending := rest }) h c t hs

end Sys2Proof.LineProofs
end

section
/-! The zone line (chapter 9): the levels of the line, and the frames of the transmit list. -/

namespace Sys2Proof.LineProofs
open Sys2Proof.Machine

/-! # The line and the transmit list

## The levels of the line and the receive errors (R141, R143, R148) -/

/-- A command that a node takes while its RESETN is inactive. -/
theorem next_running {f : State → State} {s t : State} (h : Awake s) (hf : f s = t) :
    (Host.Outcome.next (whileRunning f s) : Answer) = .next t := by
  rw [whileRunning_awake h, hf]

/-- The three checks of a complete frame (R148). A frame of kind 15 has no length that fails. -/
theorem hasReceiveError_of {f : LineFrame}
    (h : 29 ≤ f.length.toNat ∨ f.check ≠ crc (checkedBits f.frame f.length)
      ∨ (f.frame.kind ≠ .reserved ∧ lengthAllowed f.frame.kind f.length.toNat = false)) :
    hasReceiveError f = true := by
  rw [hasReceiveError]
  rcases h with long | check | ⟨-, length⟩
  · simp [long]
  · simp [check]
  · simp [length]

/-- Settles O25: a node that waits for the release takes no error; another gives the frame up or counts the error on the
line made BUSY. -/
theorem lineLevelsAndReceiveErrors : Obligations.LineLevelsAndReceiveErrors := by
  intro s awake
  refine ⟨next_running awake rfl, fun released => next_running awake (if_pos released),
    fun busy => next_running awake (if_neg (by simp [busy])), fun waits f => ⟨?_, ?_, ?_⟩, fun hears => ⟨?_, ?_, ?_⟩⟩
  · exact next_running awake (if_pos waits)
  · exact next_running awake (if_pos waits)
  · exact next_running awake (if_pos waits)
  · exact next_running awake (if_neg (by simp [hears]))
  · exact next_running awake (if_neg (by simp [hears]))
  · intro f failed
    refine next_running awake ?_
    rw [receiveLine, if_neg (by simp [hears]), if_pos (hasReceiveError_of failed)]
    rfl

/-! ## How a frame is placed (R145) -/

section
variable {f : Frame} {li : LineInterface} {before after : List TxEntry} {e : TxEntry}

/-- LI with a frame dropped. -/
def countDrop (li : LineInterface) : LineInterface := { li with lineDrops := li.lineDrops + 1 }

/-- Every frame of the list but one is no STATE. -/
structure OneState (li : LineInterface) (before : List TxEntry) (e : TxEntry) (after : List TxEntry) : Prop where
  list : li.tx = before ++ e :: after
  state : hasKind .state e = true
  others : ∀ x ∈ before ++ after, hasKind .state x = false

/-- A STATE that waits leaves the list for the newer one. -/
theorem OneState.replaced (h : OneState li before e after) (hf : f.kind = .state) (hs : e.sending = false) :
    (placeFrame f li).1 = { li with tx := before ++ after ++ [freshEntry f] } := by
  have waits : li.tx.any (fun x => hasKind .state x && !x.sending) = true := by simp [h.list, h.state, hs]
  have kept : li.tx.filter (fun x => !hasKind .state x) = before ++ after := by
    have others := h.others
    simp only [List.mem_append, or_imp, forall_and] at others
    rw [h.list, List.filter_append, List.filter_cons_of_neg (by simp [h.state]),
      List.filter_eq_self.2 (by simpa using others.1), List.filter_eq_self.2 (by simpa using others.2)]
  rw [placeFrame, if_pos ⟨hf, waits⟩, kept]

/-- A STATE being sent keeps the newer one as its replacement. -/
theorem OneState.awaited (h : OneState li before e after) (hf : f.kind = .state) (hs : e.sending = true) :
    (placeFrame f li).1 = { li with tx := before ++ { e with replacement := some f } :: after } := by
  have others := h.others
  simp only [List.mem_append, or_imp, forall_and] at others
  have sent : ¬ li.tx.any (fun x => hasKind .state x && !x.sending) = true := by
    rw [h.list, List.any_append, List.any_cons, hs]
    simpa using ⟨fun x hx hk => absurd hk (by simp [others.1 x hx]), fun x hx hk => absurd hk (by simp [others.2 x hx])⟩
  have listed : li.tx.any (hasKind .state) = true := by simp [h.list, h.state]
  have unchanged : ∀ l : List TxEntry, (∀ x ∈ l, hasKind .state x = false) →
      l.map (fun x => if hasKind .state x then { x with replacement := some f } else x) = l := by
    intro l hl
    refine (List.map_congr_left fun x hx => ?_).trans (List.map_id l)
    simp [hl x hx]
  rw [placeFrame, if_neg (by simp [sent]), if_pos ⟨hf, listed⟩, h.list, List.map_append, List.map_cons,
    if_pos h.state, unchanged before others.1, unchanged after others.2]

/-- A frame that finds no STATE to replace is dropped or joins the list as its newest. -/
theorem placeFrame_unreplaced (h : f.kind = .state → ∀ x ∈ li.tx, x.frame.kind ≠ .state) :
    (placeFrame f li).1 =
      if (f.kind = .notice ∧ 3 ≤ li.tx.countP (hasKind .notice)) ∨ 8 ≤ li.tx.length then countDrop li
      else { li with tx := li.tx ++ [freshEntry f] } := by
  have none (hk : f.kind = .state) : ¬ li.tx.any (hasKind .state) = true := by simpa [hasKind] using h hk
  have noneWaits (hk : f.kind = .state) : ¬ li.tx.any (fun x => hasKind .state x && !x.sending) = true := by
    intro hw
    obtain ⟨x, hx, hs⟩ := List.any_eq_true.1 hw
    exact none hk (List.any_eq_true.2 ⟨x, hx, (Bool.and_eq_true_iff.1 hs).1⟩)
  rw [placeFrame, if_neg fun ⟨hk, hw⟩ => noneWaits hk hw, if_neg fun ⟨hk, hl⟩ => none hk hl]
  by_cases hn : f.kind = .notice ∧ 3 ≤ li.tx.countP (hasKind .notice)
  · simp [hn, countDrop]
  · by_cases h8 : 8 ≤ li.tx.length <;> simp [hn, h8, countDrop]

end

/-- A configured node places every frame, and an UNCONFIGURED node a REPLY alone (R10, R150). -/
theorem sendFrame_placing {f : Frame} {s : State} (h : configured s = true ∨ f.kind = .reply) :
    sendFrame f s = { s with li := (placeFrame f s.li).1 } := if_pos (by simpa using h)

theorem sendFrame_refused {f : Frame} {s : State} (hc : configured s = false) (hk : f.kind ≠ .reply) :
    sendFrame f s = s := if_neg (by simp [hc, hk])

/-! ## Which frame is sent first (R145, R146) -/

/-- The best so far stays, when no later frame is sent before it. -/
theorem nextFrom_best {best : Nat × TxEntry} {l : List TxEntry} (h : ∀ x ∈ l, sendsBefore x best.2 = false) (n : Nat) :
    nextFrom best n l = best.1 := by
  induction l generalizing n with
  | nil => rfl
  | cons x rest ih =>
    obtain ⟨first, later⟩ := List.forall_mem_cons.1 h
    rw [nextFrom, first]
    exact ih later (n + 1)

/-- An entry is chosen that is sent before the best so far and all that stand before it, and that none after it is sent
before. -/
theorem nextFrom_middle {best : Nat × TxEntry} {before after : List TxEntry} {e : TxEntry}
    (hbest : sendsBefore e best.2 = true) (hb : ∀ x ∈ before, sendsBefore e x = true)
    (ha : ∀ x ∈ after, sendsBefore x e = false) (n : Nat) :
    nextFrom best n (before ++ e :: after) = n + before.length := by
  induction before generalizing best n with
  | nil =>
    rw [List.nil_append, nextFrom, hbest]
    exact nextFrom_best (best := (n, e)) ha (n + 1)
  | cons x rest ih =>
    obtain ⟨first, later⟩ := List.forall_mem_cons.1 hb
    rw [List.cons_append, nextFrom, List.length_cons]
    split
    · rw [ih (best := (n, x)) first later]; omega
    · rw [ih hbest later]; omega

/-- The frame sent next is the first of its list in kind and age order. -/
theorem nextToSend_first {before after : List TxEntry} {e : TxEntry}
    (hb : ∀ x ∈ before, kindCode e.frame.kind < kindCode x.frame.kind)
    (ha : ∀ x ∈ after, kindCode e.frame.kind ≤ kindCode x.frame.kind) :
    nextToSend (before ++ e :: after) = some before.length := by
  have earlier : ∀ x ∈ before, sendsBefore e x = true := by simpa [sendsBefore] using hb
  have later : ∀ x ∈ after, sendsBefore x e = false := by simpa [sendsBefore] using ha
  cases before with
  | nil => exact congrArg some (nextFrom_best (best := (0, e)) later 1)
  | cons x rest =>
    obtain ⟨first, rest'⟩ := List.forall_mem_cons.1 earlier
    have place := nextFrom_middle (best := (0, x)) first rest' later 1
    rw [List.cons_append, nextToSend, place, List.length_cons, Nat.add_comm]

/-- Settles O26: a frame is placed by the STATE it finds and by the room in the list; and the frame LI starts has the
lowest kind code of its list, and is the oldest of that kind. -/
theorem firstFrameInOrderIsSent : Obligations.FirstFrameInOrderIsSent := by
  refine ⟨fun f s => ⟨sendFrame_refused, fun placing => ?_⟩, fun s awake => ⟨?_, ?_⟩⟩
  · have placed := sendFrame_placing placing
    refine ⟨fun before e after hf list hk others => ?_, fun hn three => ?_, fun joins eight => ?_,
      fun joins notices room => ?_⟩
    · have one : OneState s.li before e after := ⟨list, by simpa [hasKind] using hk, by simpa [hasKind] using others⟩
      exact ⟨fun waits => by rw [placed, one.replaced hf waits], fun sent => by rw [placed, one.awaited hf sent]⟩
    · rw [placed, placeFrame_unreplaced (by simp [hn]), if_pos (.inl ⟨hn, three⟩), countDrop]
    · rw [placed, placeFrame_unreplaced joins, if_pos (.inr eight), countDrop]
    · have fits : ¬ ((f.kind = .notice ∧ 3 ≤ s.li.tx.countP (hasKind .notice)) ∨ 8 ≤ s.li.tx.length) := by
        rintro (⟨hn, three⟩ | eight)
        · exact absurd (notices hn) (not_lt.2 three)
        · omega
      rw [placed, placeFrame_unreplaced joins, if_neg fits, freshEntry]
  · intro before e after released idle list earlier later
    refine next_running awake ?_
    rw [if_pos (by simpa [released] using idle), list, nextToSend_first earlier later]
    simp only []
    rw [changeEntry_middle list]
    rfl
  · rintro (busy | empty | ⟨x, hx, sent⟩)
    · exact next_running awake (if_neg (by simp [busy]))
    · exact next_running awake (by simp [empty, nextToSend])
    · refine next_running awake (if_neg ?_)
      simp only [Bool.and_eq_true, Bool.not_eq_true', List.any_eq_false, not_and]
      exact fun _ none => none x hx sent

end Sys2Proof.LineProofs
end

section
/-! The zone line (chapter 9): how a frame that is being sent ends. -/

namespace Sys2Proof.LineProofs
open Sys2Proof.Machine
open Sys2Proof.ExitProofs (withList leaveList_middle)

/-! # How a frame being sent leaves the list or waits in it

## The commands that end a transmission -/

/-- With no frame being sent, none of them has an effect (log entry 5). -/
theorem Idle.unchanged {s : State} (awake : Awake s) (h : Idle s) :
    exec .arbitrationLost s = .next s ∧ exec .selfCheckError s = .next s ∧ exec .broadcastSent s = .next s
      ∧ ∀ ack hold, exec (.replySlotRead ack hold) s = .next s :=
  ⟨next_running awake (by rw [h.place]), next_running awake (by rw [h.entry]), next_running awake (by rw [h.entry]),
    fun _ _ => next_running awake (by rw [h.entry])⟩

/-- A self-check error, or the reply slot of an addressed frame with neither bit, is an error of the frame being sent. -/
def ErrorOf (e : TxEntry) (c : Instr) : Prop :=
  c = .selfCheckError ∨ (c = .replySlotRead false false ∧ e.frame.target ≠ 0)

/-- The node as the error finds it: after a self-check error it drives the abort mark (R146). -/
def inError (c : Instr) (s : State) : State :=
  { s with li := { s.li with aborting := c == .selfCheckError || s.li.aborting } }

/-- The node with a frame gone from its list as a line drop. -/
def lineDropped (tx : List TxEntry) (s : State) : State :=
  { s with li := { s.li with tx := tx, lineDrops := s.li.lineDrops + 1 } }

section
variable {s : State} {before after : List TxEntry} {e : TxEntry} (h : BeingSent s before e after)
include h

theorem BeingSent.erring (c : Instr) : BeingSent (inError c s) before e after := { h with }

theorem BeingSent.arbitrationLost (awake : Awake s) :
    exec .arbitrationLost s = .next (withList (before ++ stoppedEntry e :: after) s) :=
  next_running awake (by rw [h.place]; exact changeEntry_middle h.list _)

theorem BeingSent.broadcastSent (awake : Awake s) (ht : e.frame.target = 0) :
    exec .broadcastSent s = .next (withList (leftBy before e after) s) :=
  next_running awake (by rw [h.entry]; exact (if_pos ht).trans (leaveList_leftBy h.list))

/-- The owner of an addressed frame is told that it was held, or else acknowledged (R147). -/
theorem BeingSent.replied (awake : Awake s) (ht : e.frame.target ≠ 0) {ack hold : Bool}
    (hr : ack = true ∨ hold = true) :
    exec (.replySlotRead ack hold) s = .next
      (tellOwner (if hold then .held else .acknowledged) e.frame (withList (leftBy before e after) s)) := by
  refine next_running awake ?_
  rw [h.entry]
  simp only [if_neg ht, leaveList_leftBy h.list]
  cases hold with
  | true => rfl
  | false => simp [show ack = true by simpa using hr]

theorem BeingSent.erred (awake : Awake s) {c : Instr} (hc : ErrorOf e c) :
    exec c s = .next (failAttempt before.length e (inError c s)) := by
  rcases hc with rfl | ⟨rfl, ht⟩
  · exact next_running awake (by rw [h.entry]; rfl)
  · exact next_running awake (by rw [h.entry]; exact if_neg ht)

/-! ## What an attempt that fails does (R145 to R147) -/

theorem BeingSent.failAttempt_replaced {f : Frame} (hr : e.replacement = some f) :
    failAttempt before.length e s = withList (before ++ freshEntry f :: after) s := by
  rw [failAttempt, if_pos (by simp [hr]), changeEntry_middle h.list, stoppedEntry_replaced hr]

theorem BeingSent.failAttempt_counted (hr : e.replacement = none) (h7 : e.attempts < 7) :
    failAttempt before.length e s
      = withList (before ++ { e with sending := false, attempts := e.attempts + 1 } :: after) s := by
  rw [failAttempt, if_neg (by simp [hr]), if_neg (by omega), changeEntry_middle h.list]

theorem BeingSent.failAttempt_last (hr : e.replacement = none) (h7 : e.attempts = 7) :
    failAttempt before.length e s = tellOwner .failed e.frame
      (if e.frame.kind = .notice then lineDropped (before ++ after) s
        else sendNotice .lineDrop (addrOctet e.frame.target) 0 (BitVec.ofNat 16 (kindCode e.frame.kind))
          (lineDropped (before ++ after) s)) := by
  rw [failAttempt, if_neg (by simp [hr]), if_pos (by omega), failFrame, leaveList_middle h.list hr]
  rfl

end

/-! ## The owner of a frame (R50, R51, R156) -/

/-- A frame that is the REPLY to RESTART brings the REMOTE reset. -/
def RestartReply (f : Frame) : Prop := f.kind = .reply ∧ octetAt f.body 0 = 7

theorem isRestartReply_iff (f : Frame) : isRestartReply f = true ↔ RestartReply f := by
  simp [isRestartReply, RestartReply, restartTopic]

/-- No owner but EX and SN acts on the end of a frame. -/
theorem tellOwner_other {f : Frame} (hk : f.kind ≠ .pass) (hr : ¬ RestartReply f) (o : SendOutcome) (s : State) :
    tellOwner o f s = s := by
  unfold tellOwner
  rw [if_neg (mt (isRestartReply_iff f).1 hr), if_neg (by simp [hk])]

/-- Short of a reset, the owner places frames and does nothing else to LI. -/
theorem tellOwner_placings {f : Frame} (hr : ¬ RestartReply f) (o : SendOutcome) (s : State) :
    Placings s.li (tellOwner o f s).li := by
  unfold tellOwner
  rw [if_neg (mt (isRestartReply_iff f).1 hr)]
  split
  · refine settled_placings ?_
    cases o with
    | acknowledged => exact acceptOffer_placings ..
    | held | failed => simpa using Placings.done
  · exact .done

/-- The LINE_DROP of a frame, in a list with room for it (R147, R153). -/
theorem sendNotice_lineDrop {s : State} (hc : configured s = true) (h8 : s.li.tx.length < 8)
    (h3 : s.li.tx.countP (hasKind .notice) < 3) (f : Frame) :
    sendNotice .lineDrop (addrOctet f.target) 0 (BitVec.ofNat 16 (kindCode f.kind)) s
      = withList (s.li.tx ++ [freshEntry (ownFrame s .notice 0
          [15, f.target.setWidth 8, 0, 0, 0, octet (kindCode f.kind)])]) s := by
  have code : wordOctets (BitVec.ofNat 16 (kindCode f.kind)) = [0, octet (kindCode f.kind)] := by
    cases f.kind <;> rfl
  have room : ¬ ((FrameKind.notice = .notice ∧ 3 ≤ s.li.tx.countP (hasKind .notice)) ∨ 8 ≤ s.li.tx.length) := by
    simp [h8, h3]
  rw [sendNotice, noticeBody, code, sendFrame_placing (.inl hc), placeFrame_unreplaced (by simp [ownFrame])]
  exact congrArg (fun li => { s with li := li }) (if_neg room)

/-! ## The abort mark (R146) -/

/-- A frame that fails is a line drop, and what follows places frames. -/
theorem failFrame_placings {e : TxEntry} (hr : ¬ RestartReply e.frame) (n : Nat) (s : State) :
    Placings (countDrop (leaveList n e s).li) (failFrame n e s).li := by
  refine .trans ?_ (tellOwner_placings hr .failed _)
  split
  · exact .done
  · exact sendNotice_placings _ _ _ _ { leaveList n e s with li := countDrop (leaveList n e s).li }

/-- An error of a frame that brings no reset leaves an abort mark on the line. -/
theorem failAttempt_aborting {e : TxEntry} (hr : ¬ RestartReply e.frame) (n : Nat) (s : State) :
    (failAttempt n e s).li.aborting = s.li.aborting := by
  unfold failAttempt; split
  · rfl
  split
  · obtain ⟨-, -, -, -, -, aborting⟩ := (failFrame_placings hr n s).rest
    exact aborting
  · rfl

theorem sentBits_aborting {s : State} (h : s.li.aborting = true) : sentBits s = List.replicate 6 false :=
  if_pos h

/-- Settles O27: the list after each end of a transmission, with the frame being sent in place, gone, or gone as a line
drop. -/
theorem sentFramesLeaveOrWait : Obligations.SentFramesLeaveOrWait := by
  intro s awake
  refine ⟨fun idle => ?_, ?_⟩
  · obtain ⟨lost, selfCheck, broadcast, slot⟩ := Idle.unchanged awake idle
    simp only [List.forall_mem_cons, List.not_mem_nil, false_imp_iff, implies_true, and_true]
    exact ⟨lost, selfCheck, broadcast, slot _ _, slot _ _, slot _ _, slot _ _⟩
  intro before e after list waiting sending errs restart
  have h : BeingSent s before e after := ⟨list, waiting, sending⟩
  have uncounted (c : Instr) (tx : List TxEntry) : errs c 0 tx = withList tx (inError c s) := by
    simp [errs, withList, inError]
  refine ⟨fun f hr => ⟨?_, fun ht => ?_⟩, fun hr => ⟨?_, fun ht => ?_, ?_, fun c hc => ⟨?_, ?_, ?_⟩⟩,
    fun noReset => ?_⟩
  · simp only [List.forall_mem_cons, List.not_mem_nil, false_imp_iff, implies_true, and_true]
    refine ⟨?_, ?_⟩
    · rw [h.arbitrationLost awake, stoppedEntry_replaced hr, uncounted]; rfl
    · rw [h.erred awake (.inl rfl), (h.erring _).failAttempt_replaced hr, uncounted]
  · rw [h.broadcastSent awake ht, leftBy, hr]; rfl
  · rw [h.arbitrationLost awake, stoppedEntry_kept hr]; rfl
  · rw [h.broadcastSent awake ht, leftBy, hr]; simp [withList]
  · intro ht hk noReset ack hold replied
    rw [h.replied awake ht replied, tellOwner_other hk noReset, leftBy, hr]; simp [withList]
  · intro h7
    rw [h.erred awake hc, (h.erring c).failAttempt_counted hr h7, uncounted]
  · intro h7 hk
    rw [h.erred awake hc, (h.erring c).failAttempt_last hr h7, if_pos hk,
      tellOwner_other (by simp [hk]) (by simp [RestartReply, hk])]
    rfl
  · intro h7 hn hk noReset configured h8 h3
    have placed := sendNotice_lineDrop (s := lineDropped (before ++ after) (inError c s)) configured h8 h3 e.frame
    rw [h.erred awake hc, (h.erring c).failAttempt_last hr h7, if_neg hn, tellOwner_other hk noReset, placed]
    rfl
  · refine ⟨_, h.erred awake (.inl rfl), sentBits_aborting ?_⟩
    rw [failAttempt_aborting noReset]
    rfl

end Sys2Proof.LineProofs
end

section
/-! The zone line (chapter 9): the bits of a frame. -/

namespace Sys2Proof.LineProofs
open Sys2Proof.Machine

/-! # Frames survive the line

## Removal undoes insertion (R143) -/

theorem insertFrom_full (b : Bool) (rest : List Bool) :
    insertFrom b 3 (b :: rest) = b :: (!b) :: insertFrom (!b) 1 rest := by simp [insertFrom]

theorem insertFrom_same {run : Nat} (h : run ≠ 3) (b : Bool) (rest : List Bool) :
    insertFrom b run (b :: rest) = b :: insertFrom b (run + 1) rest := by simp [insertFrom, h]

theorem insertFrom_other {b last : Bool} (h : b ≠ last) (run : Nat) (rest : List Bool) :
    insertFrom last run (b :: rest) = b :: insertFrom b 1 rest := by simp [insertFrom, h]

theorem removeFrom_inserted (b : Bool) (rest : List Bool) :
    removeFrom b 4 ((!b) :: rest) = removeFrom (!b) 1 rest := by simp [removeFrom]

theorem removeFrom_same {run : Nat} (h : run ≠ 4) (b : Bool) (rest : List Bool) :
    removeFrom b run (b :: rest) = (removeFrom b (run + 1) rest).cons b := by simp [removeFrom, h]

theorem removeFrom_other {b last : Bool} {run : Nat} (hr : run ≠ 4) (h : b ≠ last) (rest : List Bool) :
    removeFrom last run (b :: rest) = (removeFrom b 1 rest).cons b := by simp [removeFrom, hr, h]

/-- After a run of at most 3 equal bits, removal takes off what insertion put in. -/
theorem removeFrom_insertFrom (l : List Bool) (last : Bool) {run : Nat} (h : run ≤ 3) :
    removeFrom last run (insertFrom last run l) = .bits l := by
  induction l generalizing last run with
  | nil => rfl
  | cons b rest ih =>
    by_cases same : b = last
    · subst same
      by_cases full : run = 3
      · subst full
        rw [insertFrom_full, removeFrom_same (by decide), removeFrom_inserted, ih (!b) (by decide)]
        rfl
      · rw [insertFrom_same full, removeFrom_same (by omega), ih b (by omega)]
        rfl
    · rw [insertFrom_other same, removeFrom_other (by omega) same, ih b (by decide)]
      rfl

theorem removeBits_insertBits (l : List Bool) : removeBits (insertBits l) = .bits l := by
  cases l with
  | nil => rfl
  | cons b rest => rw [insertBits, removeBits, removeFrom_insertFrom rest b (by decide)]; rfl

/-! ## Insertion leaves no five equal bits in a row (R143) -/

/-- No five equal bits stand in a row. -/
def NoFive (l : List Bool) : Prop := ∀ x, ¬ List.replicate 5 x <:+: l

theorem NoFive.short {l : List Bool} (h : l.length < 5) : NoFive l := fun x hx => by
  have := hx.length_le
  rw [List.length_replicate] at this
  omega

/-- A run of 4 or fewer bits before a bit of the other level makes no five. -/
theorem NoFive.after_run {l : List Bool} (y : Bool) {k : Nat} (hk : k ≤ 4) (h : NoFive ((!y) :: l)) :
    NoFive (List.replicate k y ++ (!y) :: l) := by
  induction k with
  | zero => exact h
  | succ k ih =>
    intro x hx
    rw [List.replicate_succ (n := k), List.cons_append, List.infix_cons_iff] at hx
    rcases hx with first | later
    · obtain ⟨j, hj⟩ : ∃ j, 4 = k + (j + 1) := ⟨3 - k, by omega⟩
      rw [List.replicate_succ, List.cons_prefix_cons] at first
      obtain ⟨rfl, rest⟩ := first
      rw [hj, List.replicate_add, List.prefix_append_right_inj, List.replicate_succ, List.cons_prefix_cons] at rest
      simp at rest
    · exact ih (by omega) x later

/-- The run that insertion starts from counts with the bits that follow it. -/
theorem noFive_insertFrom (l : List Bool) (last : Bool) {run : Nat} (h : run ≤ 3) :
    NoFive (List.replicate run last ++ insertFrom last run l) := by
  induction l generalizing last run with
  | nil => exact .short (by simp [insertFrom]; omega)
  | cons b rest ih =>
    by_cases same : b = last
    · subst same
      by_cases full : run = 3
      · have tail : NoFive ((!b) :: insertFrom (!b) 1 rest) := ih (!b) (run := 1) (by omega)
        rw [full, insertFrom_full]
        exact tail.after_run b (k := 4) le_rfl
      · have longer := ih b (run := run + 1) (by omega)
        rw [insertFrom_same full]
        simpa [List.replicate_succ'] using longer
    · obtain rfl : b = !last := Bool.eq_not.2 same
      have tail : NoFive ((!last) :: insertFrom (!last) 1 rest) := ih (!last) (run := 1) (by omega)
      rw [insertFrom_other same]
      exact tail.after_run last (by omega)

theorem noFive_insertBits (l : List Bool) : NoFive (insertBits l) := by
  cases l with
  | nil => exact .short (by simp [insertBits])
  | cons b rest => exact noFive_insertFrom rest b (run := 1) (by omega)

/-! ## The check of a frame as it was sent (R142, R144, R148) -/

theorem lengthField_toNat {f : Frame} (h : f.body.length ≤ 28) : (lengthField f).toNat = f.body.length := by
  rw [lengthField, BitVec.toNat_ofNat]
  exact Nat.mod_eq_of_lt (by omega)

theorem hasReceiveError_sent {f : Frame} (h : f.body.length ≤ 28) (hl : lengthAllowed f.kind f.body.length = true) :
    hasReceiveError { frame := f, length := lengthField f, check := crc (checkedBits f (lengthField f)) } = false := by
  have inRange : ¬ 29 ≤ f.body.length := by omega
  simp [hasReceiveError, lengthField_toNat h, hl, inRange]

/-! ## The bits of a frame name the frame (R142) -/

@[simp] theorem fieldBits_length {w : Nat} (v : BitVec w) : (fieldBits v).length = w := by simp [fieldBits]

theorem fieldBits_injective {w : Nat} {u v : BitVec w} (h : fieldBits u = fieldBits v) : u = v := by
  refine BitVec.eq_of_getMsbD_eq fun i hi => ?_
  exact List.map_inj_left.1 h i (List.mem_range.2 hi)

/-- A field before more bits: the field and the bits after it are both known. -/
theorem fieldBits_append_inj {w : Nat} {u v : BitVec w} {l m : List Bool}
    (h : fieldBits u ++ l = fieldBits v ++ m) : u = v ∧ l = m := by
  obtain ⟨field, rest⟩ := List.append_inj h (by simp)
  exact ⟨fieldBits_injective field, rest⟩

theorem bodyBits_injective {b c : List Byte} (h : b.flatMap fieldBits = c.flatMap fieldBits) : b = c := by
  induction b generalizing c with
  | nil =>
    cases c with
    | nil => rfl
    | cons y c => simp [fieldBits] at h
  | cons x b ih =>
    cases c with
    | nil => simp [fieldBits] at h
    | cons y c =>
      obtain ⟨octet, rest⟩ := fieldBits_append_inj (by simpa using h)
      rw [octet, ih rest]

theorem kindBits_injective {k l : FrameKind} (h : BitVec.ofNat 4 (kindCode k) = BitVec.ofNat 4 (kindCode l)) :
    k = l := by
  revert h
  cases k <;> cases l <;> decide

theorem checkedBits_injective {f g : Frame} {m n : BitVec 5} (h : checkedBits f m = checkedBits g n) : f = g := by
  simp only [checkedBits, List.append_assoc] at h
  obtain ⟨kind, h⟩ := fieldBits_append_inj h
  obtain ⟨source, h⟩ := fieldBits_append_inj h
  obtain ⟨target, h⟩ := fieldBits_append_inj h
  obtain ⟨-, body⟩ := fieldBits_append_inj h
  cases f; cases g
  exact (Frame.mk.injEq ..).mpr ⟨kindBits_injective kind, source, target, bodyBits_injective body⟩

theorem wireBits_injective {f g : Frame} (h : wireBits f = wireBits g) : f = g := by
  have received : Reception.bits (frameBits f) = .bits (frameBits g) := by
    rw [← removeBits_insertBits, ← removeBits_insertBits (frameBits g)]
    exact congrArg removeBits h
  have sent : frameBits f = frameBits g := Reception.bits.inj received
  obtain ⟨checked, -⟩ := List.append_inj' sent (by simp)
  exact checkedBits_injective (List.cons.inj checked).2

/-- Settles O51: removal undoes insertion, and the run that insertion counts never comes to five; the length field and the
check are those the receiver computes; and every field of a frame stands at its place in the bits. -/
theorem framesSurviveTheLine : Obligations.FramesSurviveTheLine := by
  refine ⟨removeBits_insertBits, fun l a b x h => ?_, fun _ => hasReceiveError_sent, fun _ _ _ _ => wireBits_injective⟩
  exact noFive_insertBits l x ⟨a, b, h.symm⟩

end Sys2Proof.LineProofs
end

section
/-! Stops, notices and enquiries (chapter 10): the proofs. -/

namespace Sys2Proof.EnquiryProofs
open Sys2Proof.Machine
open Sys2Proof.HandoverProofs (results_length_le passBody_length)
open Sys2Proof.LineProofs (next_running sendFrame_placing placeFrame_unreplaced BeingSent RestartReply
  isRestartReply_iff)

/-! # An ASK is answered

## From the command to SN (R148, R150, R155) -/

/-- A command of reception is the reception of its frame. -/
theorem exec_received {c : Instr} {f : Frame} (h : receivedFrame c = some f) (s : State) :
    exec c s = .next (whileRunning (receiveFrame f) s) := by
  cases c <;> cases h <;> rfl

/-- A frame to the setup address reaches its owner while the setup window runs. -/
theorem takeGood_setup {f : Frame} {s : State} (h : f.target = setupAddr) (hw : s.ss.window.isSome = true)
    (ht : targetAllowed f.kind f.target = true) : takeGood f s = deliver f s := by
  rw [takeGood, if_neg (by simp [ht]), if_pos h, deliverAtSetup, if_pos hw, ite_self]

/-- A frame taken at the node's number or at the setup address reaches its owner, at a configured node or not. -/
theorem receiveFrame_taken {f : Frame} {s : State} (h : TakenAt f.target s) (ho : FromOther f.source s)
    (hk : f.kind ≠ .reserved) (hl : lengthAllowed f.kind f.body.length = true)
    (ht : targetAllowed f.kind f.target = true) : receiveFrame f s = deliver f (frameHeard s) := by
  obtain ⟨awake, hears, ⟨hc, own, -⟩ | ⟨setup, window⟩⟩ := h
  · rw [receiveFrame_hearing ⟨⟨awake, hc⟩, hears⟩ ho hk hl, takeGood_own (by simpa using own) ht]
  · cases hc : configured s with
    | true =>
      rw [receiveFrame_hearing ⟨⟨awake, hc⟩, hears⟩ ho hk hl, takeGood_setup setup (by simpa using window) ht]
    | false =>
      rw [receiveFrame_unconfigured hc hears hk hl, if_pos (by rw [ht, setup]; rfl), deliverAtSetup,
        if_pos (by simpa using window)]

theorem targetAllowed_ask {target : Addr} {s : State} (h : TakenAt target s) : targetAllowed .ask target = true := by
  obtain ⟨-, -, ⟨-, -, low, high⟩ | ⟨rfl, -⟩⟩ := h
  · simp [targetAllowed, isZone, low, high]
  · rfl

/-- SN takes the ASK that a command brings. -/
theorem exec_ask {c : Instr} {source target : Addr} {topic index : Byte} {s : State} (taken : TakenAt target s)
    (other : FromOther source s) (h : receivedFrame c = some (askFrame source target topic index)) :
    exec c s = .next (takeAsk source target topic index (frameHeard s)) := by
  have allowed : targetAllowed FrameKind.ask target = true := targetAllowed_ask taken
  rw [exec_received h]
  exact next_running taken.1
    (receiveFrame_taken (f := askFrame source target topic index) taken other (by simp [askFrame]) rfl allowed)

/-! ## ACK, and the REPLY to a panel (R155) -/

theorem isPanel_iff (a : Addr) : isPanel a = true ↔ a = 61 ∨ a = 62 := by simp [isPanel]

theorem takeAsk_other {source : Addr} (h61 : source ≠ 61) (h62 : source ≠ 62) (target : Addr) (topic index : Byte)
    (s : State) : takeAsk source target topic index s = driveSlot .ack s :=
  if_neg (by rw [isPanel_iff]; exact not_or.2 ⟨h61, h62⟩)

theorem takeAsk_panel {source : Addr} (h : source = 61 ∨ source = 62) (target : Addr) (topic index : Byte)
    (s : State) :
    takeAsk source target topic index s = replyToAsk source target topic index (driveSlot .ack s) :=
  if_pos ((isPanel_iff source).2 h)

/-- The REPLY to an ASK. -/
def askReply (source target : Addr) (topic index : Byte) (s : State) : Frame :=
  replyFrame target source (answerBody topic index (askData topic index s))

/-- A REPLY is placed, unless it is to RESTART and there is no room for it. -/
theorem replyToAsk_placed {source target : Addr} {topic index : Byte} {s : State}
    (h : topic ≠ restartTopic ∨ canPlace (askReply source target topic index s) s = true) :
    replyToAsk source target topic index s = sendFrame (askReply source target topic index s) s := by
  refine if_neg fun refused => ?_
  obtain ⟨restart, noRoom⟩ : topic = restartTopic ∧ canPlace (askReply source target topic index s) s = false := by
    simpa [askReply] using refused
  exact h.elim (· restart) fun room => by simp [noRoom] at room

/-- Octets beyond the 28 of a REPLY are cut off, and those not used are 0. -/
theorem replyBody_eq (topic index result : Byte) (data : List Byte) :
    replyBody topic index result data = ([topic, index, result] ++ data ++ List.replicate 25 0).take 28 := by
  have unused : 28 - ([topic, index, result] ++ data).length ≤ 25 := by simp
  rw [replyBody, List.take_append, List.take_append (l₂ := List.replicate 25 0), List.take_replicate,
    List.take_replicate, min_self, min_eq_left unused]

theorem answerBody_eq (topic index : Byte) (data : Option (List Byte)) :
    answerBody topic index data = match data with
      | some data => ([topic, index, 0] ++ data ++ List.replicate 25 0).take 28
      | none => [topic, index, 1] ++ List.replicate 25 0 := by
  cases data with
  | none => rfl
  | some data => exact replyBody_eq topic index 0 data

/-- The frame heard and its ACK change nothing an ASK tells. -/
theorem askData_answered (topic index : Byte) (s : State) :
    askData topic index (driveSlot .ack (frameHeard s)) = askData topic index s := rfl

theorem askData_outside {topic : Byte} (h : 7 < topic.toNat) (index : Byte) (s : State) :
    askData topic index s = none := by
  unfold askData
  split
  case h_9 => rfl
  all_goals omega

/-- Settles O42: every ASK but that of RESTART is a frame with its topic's number, which SN takes and answers with what
its data give. -/
theorem enquiriesAreAnswered : Obligations.EnquiriesAreAnswered := by
  intro c source target topic index s taken other asked
  have ask : topic ≠ restartTopic ∧ receivedFrame c = some (askFrame source target topic index) := by
    have named : topic = BitVec.ofNat 8 topic.toNat := by simp
    simp only [List.mem_cons, Prod.mk.injEq, List.not_mem_nil, or_false] at asked
    rcases asked with ⟨rfl, number⟩ | ⟨rfl, number⟩ | ⟨rfl, number⟩ | ⟨rfl, number⟩ | ⟨rfl, number⟩ | ⟨rfl, number⟩
      | ⟨rfl, number⟩ | ⟨rfl, outside⟩
    on_goal 8 =>
      have large : 8 ≤ topic.toNat := by omega
      refine ⟨?_, rfl⟩
      rintro rfl
      simp [restartTopic] at large
    all_goals
      rw [number] at named
      subst named
      exact ⟨by decide, rfl⟩
  obtain ⟨noRestart, frame⟩ := ask
  rw [exec_ask taken other frame]
  refine ⟨fun panel => ?_, fun h61 h62 => ?_, fun large => askData_outside large index s⟩
  · rw [takeAsk_panel panel, replyToAsk_placed (.inl noRestart), askReply, askData_answered, answerBody_eq]
    rfl
  · rw [takeAsk_other h61 h62]

/-! # ASK RESTART resets the node

## A REMOTE reset and a PIN reset (R161) -/

/-- A reset looks at the time, the setup store, the resets since power and the commands that wait, and at no more. -/
theorem resetNode_congr (cause : ResetCause) {s t : State} (htb : t.tb = s.tb) (hsn : t.sn = s.sn)
    (hss : t.ss = s.ss) (hp : t.pending = s.pending) : resetNode cause t = resetNode cause s := by
  simp only [resetNode, htb, hsn, hss, hp]

/-- The node with another reset cause. -/
def withCause (cause : ResetCause) (s : State) : State := { s with sn := { s.sn with resetCause := cause } }

theorem sendFrame_withCause (f : Frame) (cause : ResetCause) (s : State) :
    sendFrame f (withCause cause s) = withCause cause (sendFrame f s) := by
  unfold sendFrame
  rw [apply_ite (withCause cause)]
  rfl

/-- The STATE does not tell the reset cause (R66). -/
theorem placeState_withCause (cause : ResetCause) (s : State) :
    placeState (withCause cause s) = withCause cause (placeState s) := by
  have sent := sendFrame_withCause (ownFrame s .state 0 (stateOctets (ownBody s))) cause s
  exact congrArg (fun u : State => { u with
    nt := { s.nt with period := some (startTimer s statePeriodMs), announced := some (ownBody s) } }) sent

theorem resetNode_remote (s : State) : resetNode .remote s = withCause .remote (resetNode .pin s) := by
  have reset (u : State) :
      (if configured (withCause .remote u) then placeState (withCause .remote u) else withCause .remote u)
        = withCause .remote (if configured u then placeState u else u) := by
    rw [placeState_withCause, ← apply_ite (withCause .remote)]
    rfl
  symm
  refine (reset _).symm.trans ?_
  rfl

/-- At a node that differs in LI alone, a REMOTE reset leaves what a PIN reset leaves here, but for its cause. -/
theorem remoteReset_of_pinReset {s t : State} (htb : t.tb = s.tb) (hsn : t.sn = s.sn) (hss : t.ss = s.ss)
    (hp : t.pending = s.pending) :
    ∃ p, exec .pinReset s = .next p ∧ (Host.Outcome.next (resetNode .remote t) : Answer) = .next (withCause .remote p) :=
  ⟨_, rfl, congrArg Host.Outcome.next ((resetNode_congr .remote htb hsn hss hp).trans (resetNode_remote s))⟩

/-! ## The REPLY to RESTART (R145, R156) -/

theorem canPlace_reply {f : Frame} (hk : f.kind = .reply) (s : State) :
    canPlace f s = true ↔ s.li.tx.length < 8 := by
  by_cases full : 8 ≤ s.li.tx.length
  · simp [canPlace, placeFrame, hk, full]
  · simp [canPlace, placeFrame, hk, full, not_le.1 full]

/-- A REPLY that finds room joins the list as its newest frame. -/
theorem sendFrame_reply {f : Frame} {s : State} (hk : f.kind = .reply) (room : s.li.tx.length < 8) :
    sendFrame f s = { s with li := { s.li with tx := s.li.tx ++ [freshEntry f] } } := by
  have joins : ¬ ((f.kind = .notice ∧ 3 ≤ s.li.tx.countP (hasKind .notice)) ∨ 8 ≤ s.li.tx.length) := by
    simp [hk, room]
  rw [sendFrame_placing (.inr hk), placeFrame_unreplaced (by simp [hk]), if_neg joins]

/-- A REPLY to RESTART with no room in the list brings the reset at once. -/
theorem replyToAsk_noRoom (source target : Addr) (index : Byte) {s : State} (full : 8 ≤ s.li.tx.length) :
    replyToAsk source target restartTopic index s = resetNode .remote s := by
  have refused : canPlace (askReply source target restartTopic index s) s = false := by
    rw [Bool.eq_false_iff, Ne, canPlace_reply rfl]
    omega
  exact if_pos (by simpa [askReply] using refused)

/-- The end of the REPLY to RESTART, whichever it is, brings the reset. -/
theorem tellOwner_restart {f : Frame} (h : RestartReply f) (outcome : SendOutcome) (s : State) :
    tellOwner outcome f s = resetNode .remote s :=
  if_pos ((isRestartReply_iff f).2 h)

theorem restartReply_of_head {f : Frame} (hk : f.kind = .reply) (h : f.body.head? = some 7) : RestartReply f := by
  refine ⟨hk, ?_⟩
  rw [octetAt, List.getD_eq_getElem?_getD, ← List.head?_eq_getElem?, h]
  rfl

/-- The REPLY to RESTART leaves the list, and the reset finds the node changed in LI alone. -/
theorem restartReply_ends {s : State} {before after : List TxEntry} {e : TxEntry} (h : BeingSent s before e after)
    (awake : Awake s) (restart : RestartReply e.frame) (ht : e.frame.target ≠ 0) {ack hold : Bool}
    (ends : ack = true ∨ hold = true ∨ (e.replacement = none ∧ e.attempts = 7)) :
    ∃ t, exec (.replySlotRead ack hold) s = .next (resetNode .remote t)
      ∧ t.tb = s.tb ∧ t.sn = s.sn ∧ t.ss = s.ss ∧ t.pending = s.pending := by
  by_cases replied : ack = true ∨ hold = true
  · rw [h.replied awake ht replied, tellOwner_restart restart]
    exact ⟨_, rfl, rfl, rfl, rfl, rfl⟩
  · obtain ⟨rfl, rfl⟩ : ack = false ∧ hold = false := by simpa using replied
    obtain ⟨plain, last⟩ : e.replacement = none ∧ e.attempts = 7 := by simpa using ends
    have noNotice : e.frame.kind ≠ .notice := by simp [restart.1]
    rw [h.erred awake (.inr ⟨rfl, ht⟩), (h.erring _).failAttempt_last plain last, tellOwner_restart restart,
      if_neg noNotice]
    exact ⟨_, rfl, by simp [LineProofs.lineDropped, LineProofs.inError]⟩

/-- Settles O44: RESTART is an enquiry whose REPLY brings the reset when it cannot be placed or when it ends, and a reset
does not look at LI. -/
theorem restartResetsTheNode : Obligations.RestartResetsTheNode := by
  refine ⟨fun source target index s taken other => ?_, fun s before e after ack hold awake list waiting sending kind
    head addressed ends => ?_⟩
  · have asked := exec_ask (c := .askRestart source target index) (topic := restartTopic) taken other rfl
    refine ⟨fun h61 h62 => ?_, fun panel room => ?_, fun panel full => ?_⟩
    · rw [asked, takeAsk_other h61 h62]
    · have fits : (driveSlot .ack (frameHeard s)).li.tx.length < 8 := room
      rw [asked, takeAsk_panel panel, replyToAsk_placed (.inr ((canPlace_reply rfl _).2 fits)),
        sendFrame_reply rfl fits]
      rfl
    · rw [asked, takeAsk_panel panel, replyToAsk_noRoom source target index (by simpa using full)]
      exact remoteReset_of_pinReset rfl rfl rfl rfl
  · obtain ⟨t, ended, htb, hsn, hss, hp⟩ :=
      restartReply_ends ⟨list, waiting, sending⟩ awake (restartReply_of_head kind head) addressed ends
    rw [ended]
    exact remoteReset_of_pinReset htb hsn hss hp

/-! # The data of the enquiries

## Flags gathered in one octet (R155) -/

/-- A flag shows its octet's bits exactly when it is set. -/
theorem flag_getLsbD (flag : Bool) (v : Byte) (k : Nat) :
    (if flag then v else 0).getLsbD k = (flag && v.getLsbD k) := by
  cases flag <;> simp

theorem termsOctet_bits (s : State) :
    (termsOctet s).getLsbD 0 = s.sn.localTerm ∧ (termsOctet s).getLsbD 1 = !s.sn.stopSet.isEmpty
      ∧ (termsOctet s).getLsbD 2 = s.sn.startHold.isSome := by
  have stopFlag : (if s.sn.stopSet.isEmpty then (0 : Byte) else 2) = if !s.sn.stopSet.isEmpty then 2 else 0 := by
    cases s.sn.stopSet.isEmpty <;> rfl
  rw [termsOctet, stopFlag]
  simp only [BitVec.getLsbD_or, flag_getLsbD]
  simp

theorem faultsOctet_bits (fs : Faults) :
    (faultsOctet fs).getLsbD 0 = fs.jam.isSome ∧ (faultsOctet fs).getLsbD 1 = fs.exitStuck.isSome
      ∧ (faultsOctet fs).getLsbD 2 = fs.overfull.isSome ∧ (faultsOctet fs).getLsbD 3 = fs.duplicateZone.isSome
      ∧ (faultsOctet fs).getLsbD 4 = fs.probe.isSome := by
  simp only [faultsOctet, BitVec.getLsbD_or, flag_getLsbD]
  simp

/-! ## Records and neighbours -/

/-- A record as the enquiries tell it: with its PENDING entry left out. -/
def frozenRecord (r : RackRecord) : RackRecord := { r with results := r.results.filter fun e => e.verdict != .pending }

theorem queueData_eq (r : RackRecord) : queueData r = (passBody 0 (frozenRecord r)).drop 1 := rfl

theorem expectedData_eq (e : ExpectedEntry) :
    expectedData e = [e.upstream.setWidth 8, e.serial] ++ (queueData e.record).take 7 ++ (queueData e.record).drop 8 :=
  rfl

theorem neighbourData_eq (now : Time) (n : Neighbour) :
    neighbourData now n = [n.zone.setWidth 8, if n.presence = .present then 1 else 0]
      ++ wordOctets (match n.lastHeard with
        | some h => BitVec.ofNat 16 (min (now - h).toNat 65535)
        | none => 65535)
      ++ match n.last with
        | some b => [b.service, b.flags, b.free, b.queue, b.expected, b.waited]
        | none => [0, 0, 0, 0, 0, 0] := by
  unfold neighbourData
  cases n.lastHeard <;> cases n.last <;> rfl

/-! ## How long the data are -/

theorem queueData_length {r : RackRecord} (h : RecordOk r) : (queueData r).length ≤ 24 := by
  have frozen : (frozenRecord r).results.length ≤ r.results.length := List.length_filter_le ..
  have few := results_length_le h
  rw [queueData_eq, List.length_drop, passBody_length]
  omega

/-- Three octets more than the record's, and the result count's octet less. -/
theorem expectedData_length {e : ExpectedEntry} (h : RecordOk e.record) : (expectedData e).length ≤ 25 := by
  have record := queueData_length h
  rw [expectedData_eq]
  simp only [List.length_append, List.length_take, List.length_drop, List.length_cons, List.length_nil]
  omega

theorem neighbourData_length (now : Time) (n : Neighbour) : (neighbourData now n).length = 10 := by
  unfold neighbourData
  cases n.last <;> rfl

theorem askData_length {s : State} (h : QueueOk s) {topic index : Byte} {data : List Byte}
    (hd : askData topic index s = some data) : data.length ≤ 25 := by
  obtain ⟨-, -, queue, expected⟩ := h
  simp only [askData] at hd
  split at hd
  · cases hd
    simp [statusData]
  · obtain ⟨w, -, rfl⟩ := Option.map_eq_some_iff.1 hd
    simp [wordOctets]
  · obtain ⟨r, hr, rfl⟩ := Option.map_eq_some_iff.1 hd
    exact (queueData_length (queue r (List.mem_of_getElem? hr))).trans (by decide)
  · obtain ⟨e, he, rfl⟩ := Option.map_eq_some_iff.1 hd
    exact expectedData_length (expected e (List.mem_of_getElem? he)).1
  · obtain ⟨e, -, rfl⟩ := Option.map_eq_some_iff.1 hd
    simp [callData, callBody, wordOctets]
  · obtain ⟨n, -, rfl⟩ := Option.map_eq_some_iff.1 hd
    rw [neighbourData_length]
    decide
  · obtain ⟨i, -, rfl⟩ := Option.map_eq_some_iff.1 hd
    simp [wordOctets]
  · cases hd
    decide
  · cases hd

/-- Settles O43: the data of each topic as its own function gives them. -/
theorem replyHoldsItsData : Obligations.ReplyHoldsItsData := by
  intro index s record since
  obtain ⟨term0, term1, term2⟩ := termsOctet_bits s
  obtain ⟨fault0, fault1, fault2, fault3, fault4⟩ := faultsOctet_bits s.sn.faults
  refine ⟨⟨statusData s, rfl, rfl, rfl, rfl, term0, term1, term2, fault0, fault1, fault2, fault3, fault4⟩, rfl,
    fun r hr => ?_, fun e he => ?_, fun e he => ?_, fun n hn => ?_, fun i hi => ?_, fun beyond => ?_,
    fun beyond => ?_, fun beyond => ?_, fun beyond => ?_, fun unknown => ?_, fun h topic data => askData_length h⟩
  · exact congrArg (Option.map queueData) hr
  · exact congrArg (Option.map expectedData) he
  · exact congrArg (Option.map (callData s.tb)) he
  · exact (congrArg (Option.map (neighbourData s.tb)) hn).trans (congrArg some (neighbourData_eq s.tb n))
  · exact congrArg (Option.map fun i => wordOctets (itemCode s.ss.running i)) hi
  · exact congrArg (Option.map queueData) (List.getElem?_eq_none beyond)
  · exact congrArg (Option.map expectedData) (List.getElem?_eq_none beyond)
  · exact congrArg (Option.map (callData s.tb)) (List.getElem?_eq_none beyond)
  · exact congrArg (Option.map (neighbourData s.tb)) (List.getElem?_eq_none beyond)
  · exact congrArg (Option.map fun i => wordOctets (itemCode s.ss.running i)) unknown

end Sys2Proof.EnquiryProofs
end

section
/-! The setup store and start-up (chapter 11): the proofs. -/

namespace Sys2Proof.SetupProofs
open Sys2Proof.Machine
open Sys2Proof.HandoverProofs (ofOctets_highOctet_lowOctet)
open Sys2Proof.LineProofs (next_running sendFrame_placing)
open Sys2Proof.EnquiryProofs (exec_received receiveFrame_taken targetAllowed_ask isPanel_iff sendFrame_reply)

/-! # Setup frames

## From the command to SS (R148, R158, R160) -/

/-- A frame that the node takes reaches the owner of its kind. -/
theorem exec_taken {c : Instr} {f : Frame} {s : State} (taken : TakenAt f.target s) (other : FromOther f.source s)
    (brings : receivedFrame c = some f) (kind : f.kind ≠ .reserved)
    (length : lengthAllowed f.kind f.body.length = true) (target : targetAllowed f.kind f.target = true) :
    exec c s = .next (deliver f (frameHeard s)) := by
  rw [exec_received brings]
  exact next_running taken.1 (receiveFrame_taken taken other kind length target)

section
variable {source target : Addr} {s : State}

theorem exec_setupEnable (taken : TakenAt target s) (other : FromOther source s) :
    exec (.setupEnable source target) s = .next (takeSetup source enableWrite (frameHeard s)) :=
  exec_taken (f := { kind := .setupEnable, source, target, body := [] }) taken other rfl (by simp) rfl
    (targetAllowed_ask taken)

theorem exec_setupRead (taken : TakenAt target s) (other : FromOther source s) (item : Byte) :
    exec (.setupRead source target item) s = .next (takeSetup source
      (fun u => sendFrame (replyFrame target source (readReply item u)) u) (frameHeard s)) :=
  exec_taken (f := { kind := .setupRead, source, target, body := [item] }) taken other rfl (by simp) rfl
    (targetAllowed_ask taken)

/-- SS gets the value that was written: its two octets give it again. -/
theorem exec_setupWrite (taken : TakenAt target s) (other : FromOther source s) (item : Byte) (value : Word16) :
    exec (.setupWrite source target item value) s
      = .next (takeSetup source (decideWrite source target item value) (frameHeard s)) := by
  have written : wordAt [item, highOctet value, lowOctet value] 1 = value := ofOctets_highOctet_lowOctet value
  rw [exec_taken (f := { kind := .setupWrite, source, target, body := [item, highOctet value, lowOctet value] })
    taken other rfl (by simp) rfl (targetAllowed_ask taken)]
  simp only [deliver, written]
  rfl

end

/-! ## HOLD or ACK (R158) -/

theorem takeSetup_held {source : Addr} {s : State} (h : source ≠ 61 ∧ source ≠ 62 ∨ s.ss.cycle.isSome = true)
    (effect : State → State) : takeSetup source effect s = driveSlot .hold s := by
  refine if_neg fun taken => ?_
  obtain ⟨panel, free⟩ : isPanel source = true ∧ s.ss.cycle = none := by simpa using taken
  rcases h with ⟨h61, h62⟩ | busy
  · exact ((isPanel_iff source).1 panel).elim h61 h62
  · simp [free] at busy

theorem takeSetup_acked {source : Addr} {s : State} (panel : source = 61 ∨ source = 62) (free : s.ss.cycle = none)
    (effect : State → State) : takeSetup source effect s = driveSlot .ack (effect s) :=
  if_pos (by simp [(isPanel_iff source).2 panel, free])

/-! ## The REPLY (R155, R158, R159) -/

theorem readReply_known {item : Byte} {i : Item} (h : itemOfNumber item.toNat = some i) (s : State) :
    readReply item s = setupReplyBody item 0 ((itemValue s.ss.store i).getD 65535) := by
  simp only [readReply, h]
  rfl

theorem readReply_unknown {item : Byte} (h : itemOfNumber item.toNat = none) (s : State) :
    readReply item s = setupReplyBody item 5 (Config.unknownItemValue item) := by
  simp only [readReply, h]
  rfl

/-! ## The checks of a write (R159) -/

/-- The lock keeps an item from being written. -/
abbrev LockedAgainst (store : Items) (i : Item) : Prop :=
  itemValue store .lock ≠ none ∧ (i = .zoneNumber ∨ i = .role ∨ i = .lock)

/-- A value may be written to an item: unset, a default that exists, or a value in range. -/
abbrev ValueAllowed (i : Item) (value : Word16) : Prop :=
  value = 65535 ∨ (value = 65534 ∧ itemDefault i ≠ none) ∨ itemInRange i value.toNat = true

/-- The frame heard changes nothing that the checks look at. -/
theorem checkWrite_frameHeard (item : Byte) (value : Word16) (s : State) :
    checkWrite item value (frameHeard s) = checkWrite item value s := rfl

theorem checkWrite_unknown {item : Byte} (h : itemOfNumber item.toNat = none) (value : Word16) (s : State) :
    checkWrite item value s = .error 5 := by
  simp only [checkWrite, h]
  rfl

theorem locked_iff (store : Items) (i : Item) :
    (storeLocked store && (i == .zoneNumber || i == .role || i == .lock)) = true ↔ LockedAgainst store i := by
  simp [storeLocked, LockedAgainst, Option.isSome_iff_ne_none, or_assoc]

theorem outOfRange_iff (i : Item) (value : Word16) :
    (value != unsetCode && !(value == defaultCode && (itemDefault i).isSome) && !itemInRange i value.toNat) = true
      ↔ ¬ ValueAllowed i value := by
  cases h : itemDefault i <;> simp [unsetCode, defaultCode, ValueAllowed, h, and_assoc]

/-- The checks of a write to an item of the table, in their order. -/
theorem checkWrite_known {item : Byte} {i : Item} (h : itemOfNumber item.toNat = some i) (value : Word16) (s : State) :
    checkWrite item value s
      = if s.ss.writeEnable = false then .error 2
        else if LockedAgainst s.ss.store i then .error 4
        else if ¬ ValueAllowed i value then .error 3
        else .ok i := by
  simp only [checkWrite, h, locked_iff, outOfRange_iff, Bool.not_eq_true']
  rfl

theorem decideWrite_refused {item result : Byte} {value : Word16} {s : State}
    (h : checkWrite item value s = .error result) (source target : Addr) :
    decideWrite source target item value s
      = sendFrame (replyFrame target source (setupReplyBody item result value))
          { s with ss := { s.ss with writeEnable := false } } := by
  simp only [decideWrite, h]

theorem decideWrite_started {item : Byte} {i : Item} {value : Word16} {s : State}
    (h : checkWrite item value s = .ok i) (source target : Addr) :
    decideWrite source target item value s
      = { s with ss := { s.ss with cycle := some {
            item := i, value := writtenValue i value, written := value, source := target, target := source,
            timer := { start := s.tb, duration := 40 } } } } := by
  simp only [decideWrite, h]
  rfl

/-- Settles O23: a setup frame is held or reaches SS, and SS answers a read by the item it names and a write by the first
check that fails. -/
theorem setupFramesAreTakenFromPanels : Obligations.SetupFramesAreTakenFromPanels := by
  intro source target item value s taken other
  have enable := exec_setupEnable taken other
  have write := exec_setupWrite taken other item value
  have read := exec_setupRead taken other item
  refine ⟨fun held c hc => ?_, fun panel free => ?_⟩
  · have hold := takeSetup_held (s := frameHeard s) held
    simp only [List.mem_cons, List.not_mem_nil, or_false] at hc
    rcases hc with rfl | rfl | rfl
    · rw [enable, hold]
    · rw [write, hold]
    · rw [read, hold]
  · have ack := takeSetup_acked (s := frameHeard s) panel free
    rw [ack] at enable write read
    have refused {result : Byte} (h : checkWrite item value s = .error result) :=
      write.trans (by rw [decideWrite_refused ((checkWrite_frameHeard ..).trans h)])
    refine ⟨enable, fun unknown => ?_, fun i known => ?_, fun unknown => refused (checkWrite_unknown unknown ..),
      fun i known => ?_⟩
    · rw [read, readReply_unknown unknown]
      rfl
    · rw [read, readReply_known known]
      rfl
    · have check := checkWrite_known known value s
      refine ⟨fun off => refused ?_, fun on locked => refused ?_, fun on unlocked outside => refused ?_,
        fun on unlocked allowed => ?_⟩
      · rw [check, if_pos off]
      · rw [check, if_neg (by simp [on]), if_pos locked]
      · rw [check, if_neg (by simp [on]), if_neg unlocked, if_pos outside]
      · rw [if_neg (by simp [on]), if_neg unlocked, if_neg (not_not.2 allowed)] at check
        rw [write, decideWrite_started ((checkWrite_frameHeard ..).trans check)]
        rfl

/-! ## The end of a write cycle (R159) -/

/-- A write cycle that is due completes on the state as it stands. -/
theorem exec_writeCycleCompletion {w : WriteCycle} {s : State} (awake : Awake s) (cycle : s.ss.cycle = some w)
    (due : w.timer.due s.tb = true) : exec .writeCycleCompletion s = .next (completeWrite w s) := by
  refine next_running awake ?_
  simp only [cycle]
  exact onExpiry_due rfl due _

/-- The node with the item of a write cycle stored, before the REPLY is placed. -/
def itemStored (w : WriteCycle) (s : State) : State :=
  { s with ss := { s.ss with store := setItem s.ss.store w.item w.value, writeEnable := false, cycle := none } }

/-- The REPLY DONE of a write cycle. -/
def doneReply (w : WriteCycle) : Frame :=
  replyFrame w.source w.target (setupReplyBody (octet (itemNumber w.item)) doneResult w.written)

theorem completeWrite_eq (w : WriteCycle) (s : State) :
    completeWrite w s = sendFrame (doneReply w) (itemStored w s) := rfl

theorem completeWrite_ss (w : WriteCycle) (s : State) : (completeWrite w s).ss = (itemStored w s).ss := by
  simp [completeWrite_eq]

/-- A write cycle changes SS and LI alone. -/
theorem completeWrite_frame (w : WriteCycle) (s : State) : { completeWrite w s with ss := s.ss, li := s.li } = s := by
  rw [completeWrite_eq, sendFrame_placing (.inr rfl)]
  rfl

theorem completeWrite_li {w : WriteCycle} {s : State} (room : s.li.tx.length < 8) :
    (completeWrite w s).li = { s.li with tx := s.li.tx ++ [freshEntry (doneReply w)] } := by
  have fits : (itemStored w s).li.tx.length < 8 := room
  rw [completeWrite_eq, sendFrame_reply rfl fits]
  rfl

/-- Settles O24: the cycle completes when it is due, on the setup store by one item and on LI by one REPLY. -/
theorem writeCycleStoresItsItem : Obligations.WriteCycleStoresItsItem := by
  intro w s awake cycle due
  refine ⟨completeWrite w s, exec_writeCycleCompletion awake cycle due, ?_⟩
  rw [completeWrite_ss]
  exact ⟨itemValue_setItem .., fun i other => itemValue_setItem_ne _ _ other.symm, rfl, rfl, rfl, rfl,
    completeWrite_frame w s, completeWrite_li⟩

/-! # RESETN (R161) -/

/-- A node that no longer drives the line sends no bits. -/
theorem sentBits_stopDriving (s : State) : sentBits (stopDriving s) = [] := by
  have none : (stopDriving s).li.tx.find? (·.sending) = none := by simp [stopDriving]
  rw [sentBits, if_neg (by simp [stopDriving]), none]

/-- The frames wait in the list as before. -/
theorem stopDriving_frames (s : State) : (stopDriving s).li.tx.map (·.frame) = s.li.tx.map (·.frame) := by
  simp [stopDriving]

/-- Every command but those of a reset and of RESETN waits for the node to run. -/
theorem exec_whileRunning {c : Instr} (power : c ≠ .powerReset) (pin : c ≠ .pinReset) (resetn : c ≠ .resetnAsserted)
    (s : State) : ∃ f, exec c s = .next (whileRunning f s) := by
  cases c
  case powerReset => exact absurd rfl power
  case pinReset => exact absurd rfl pin
  case resetnAsserted => exact absurd rfl resetn
  all_goals exact ⟨_, rfl⟩

/-- Settles O6: RESETN stops the driving of the line, and every command but a reset then finds the node held. -/
theorem resetnHoldsTheNode : Obligations.ResetnHoldsTheNode := by
  refine ⟨fun s => ⟨{ stopDriving s with resetn := true }, rfl, rfl, ?_, ?_, sentBits_stopDriving s, rfl, rfl, rfl,
    stopDriving_frames s⟩, fun c s held power pin resetn => ?_⟩
  · simp [drivePin]
  · simp [gatePin]
  · obtain ⟨f, waits⟩ := exec_whileRunning power pin resetn s
    rw [waits, whileRunning_held held]

end Sys2Proof.SetupProofs
end

section
/-! # A step on a queue with a command waiting (00_scope.md, Time) -/

namespace Sys2Proof.StepProofs
open Sys2Proof.Machine

/-- With a command waiting, a step is that command and the time base gets no step. -/
theorem step_of_pending_cons {s : State} {c : Instr} {rest : List Instr} (waiting : s.pending = c :: rest) :
    step s = exec c { s with pending := rest } := by
  rw [step, waiting]

/-- Settles O1: the queue `c :: rest` has `c` at its front, and taking `rest` for it forgets only the queue it replaces. -/
theorem stepTakesTheFrontCommand : Obligations.StepTakesTheFrontCommand := by
  intro c rest s
  have waiting : ({ s with pending := c :: rest } : State).pending = c :: rest := rfl
  exact step_of_pending_cons waiting

end Sys2Proof.StepProofs
end

section
/-! What a reset gives each block, said once (R9, R161). -/

namespace Sys2Proof.ResetProofs
open Sys2Proof.Machine

/-! # The node that a reset starts -/

/-- The node after a reset, before it announces itself. -/
def freshNode (cause : ResetCause) (s : State) : State :=
  { tb := timeAfter cause s.tb
    resetn := false
    li := LineInterface.reset
    zq := ZoneQueue.reset
    ex := ExitController.reset (resetPosition (runningItems s.ss.store))
    dc := DriveController.reset
    nt := NeighbourTable.reset (neighbourZones (runningItems s.ss.store))
    su := SampleUnit.reset
    ma := MergeArbiter.reset
    sl := SortLogic.reset
    cl := CallList.reset
    sn := StopNotice.reset (timeAfter cause s.tb) (validityCheck (loadedItems s.ss.store)) cause
      (resetsAfter cause s.sn.resets)
    ss := SetupStore.reset s.ss.store (runningItems s.ss.store)
    pending := s.pending }

/-- A node whose store is valid is RECOVERING and announces itself; any other is UNCONFIGURED and sends nothing (R67). -/
theorem resetNode_eq (cause : ResetCause) (s : State) :
    resetNode cause s = if configured (freshNode cause s) then placeState (freshNode cause s) else freshNode cause s := rfl

theorem freshNode_configured (cause : ResetCause) (s : State) :
    configured (freshNode cause s) = (validityCheck (loadedItems s.ss.store)).isNone := by
  unfold configured freshNode StopNotice.reset; cases validityCheck (loadedItems s.ss.store) <;> rfl

theorem resetNode_valid (cause : ResetCause) {s : State} (h : validityCheck (loadedItems s.ss.store) = none) :
    resetNode cause s = placeState (freshNode cause s) := by
  rw [resetNode_eq, if_pos (by rw [freshNode_configured, h]; rfl)]

theorem resetNode_invalid (cause : ResetCause) {s : State} {r : SetupFault}
    (h : validityCheck (loadedItems s.ss.store) = some r) : resetNode cause s = freshNode cause s := by
  rw [resetNode_eq, if_neg (by simp [freshNode_configured, h])]

/-- The STATE that announces the node changes LI and NT alone. -/
theorem resetNode_frame (cause : ResetCause) (s : State) :
    (resetNode cause s).tb = timeAfter cause s.tb ∧ (resetNode cause s).resetn = false
      ∧ (resetNode cause s).zq = ZoneQueue.reset
      ∧ (resetNode cause s).ex = ExitController.reset (resetPosition (runningItems s.ss.store))
      ∧ (resetNode cause s).dc = DriveController.reset ∧ (resetNode cause s).su = SampleUnit.reset
      ∧ (resetNode cause s).ma = MergeArbiter.reset ∧ (resetNode cause s).sl = SortLogic.reset
      ∧ (resetNode cause s).cl = CallList.reset ∧ (resetNode cause s).sn = (freshNode cause s).sn
      ∧ (resetNode cause s).ss = SetupStore.reset s.ss.store (runningItems s.ss.store)
      ∧ (resetNode cause s).pending = s.pending
      ∧ (resetNode cause s).nt.entries = (neighbourZones (runningItems s.ss.store)).map Neighbour.unheard := by
  rw [resetNode_eq]; split
  · simp [freshNode, placeState, NeighbourTable.reset]
  · simp [freshNode, NeighbourTable.reset]

theorem runningItems_valid {store : Items} (h : validityCheck (loadedItems store) = none) :
    runningItems store = loadedItems store := by simp [runningItems, h]

theorem runningItems_invalid {store : Items} {r : SetupFault} (h : validityCheck (loadedItems store) = some r) :
    runningItems store = Items.unset := by simp [runningItems, h]

theorem neighbourZones_unset : neighbourZones Items.unset = [] := by simp [neighbourZones, itemZone]

/-- The service state a reset gives (R9, R161). -/
theorem resetNode_service (cause : ResetCause) (s : State) :
    (resetNode cause s).sn.service
      = if validityCheck (loadedItems s.ss.store) = none then .recovering else .unconfigured := by
  obtain ⟨-, -, -, -, -, -, -, -, -, sn, -⟩ := resetNode_frame cause s
  rw [sn, freshNode, StopNotice.reset]
  cases validityCheck (loadedItems s.ss.store) <;> rfl

theorem resetNode_faults (cause : ResetCause) (s : State) : (resetNode cause s).sn.faults = Faults.clear := by
  obtain ⟨-, -, -, -, -, -, -, -, -, sn, -⟩ := resetNode_frame cause s
  rw [sn]; rfl

end Sys2Proof.ResetProofs
end

section
/-! What a command can do to the node, said once: a walk through every command for conditions that each step keeps. -/

namespace Sys2Proof.StepProofs
open Sys2Proof.Machine

/-! # Operations that change nothing a condition of the node reads

## The traffic of an UNCONFIGURED node (R10, R150) -/

/-- A REPLY that waits in the list, with no STATE to take its entry. -/
abbrev PlainReply (e : TxEntry) : Prop := e.frame.kind = .reply ∧ e.replacement = none

/-- An UNCONFIGURED node has only REPLY frames to send. -/
abbrev RepliesOnly (s : State) : Prop := configured s = false → ∀ e ∈ s.li.tx, PlainReply e

theorem plainReply_freshEntry {f : Frame} (h : f.kind = .reply) : PlainReply (freshEntry f) := ⟨h, rfl⟩

/-! ## Nodes alike, but for their halt terms, and nodes alike -/

/-- `t` has the values of `s` in all that the conditions of the node read, the halt terms excepted: a stop set with no
repeats stays one, and an UNCONFIGURED node gets nothing but REPLY frames to send. -/
structure AlikeButTerms (s t : State) : Prop where
  running : t.ss.running = s.ss.running
  store : t.ss.store = s.ss.store
  service : t.sn.service = s.sn.service
  quiet : t.sn.quiet = s.sn.quiet
  faults : t.sn.faults = s.sn.faults
  contents : t.zq.queue.map (·.content) = s.zq.queue.map (·.content)
  expected : t.zq.expected = s.zq.expected
  eye1 : t.zq.eye1 = s.zq.eye1
  eye2 : t.zq.eye2 = s.zq.eye2
  eyeX : t.zq.eyeX = s.zq.eyeX
  ex : t.ex = s.ex
  drive : t.dc.drive = s.dc.drive
  runOn : t.dc.runOn = s.dc.runOn
  nt : t.nt = s.nt
  period : t.su.period.isSome = s.su.period.isSome
  sl : t.sl = s.sl
  calls : t.cl.calls = s.cl.calls
  stationOpen : t.cl.stationOpen = s.cl.stationOpen
  stopSetOk : StopSetOk s → StopSetOk t
  replies : RepliesOnly s → RepliesOnly t

/-- `t` has the values of `s` in all that the conditions of the node read. -/
structure Alike (s t : State) : Prop extends AlikeButTerms s t where
  localTerm : t.sn.localTerm = s.sn.localTerm
  stopSet : t.sn.stopSet = s.sn.stopSet
  startHold : t.sn.startHold = s.sn.startHold

theorem AlikeButTerms.trans {s t u : State} (h : AlikeButTerms s t) (h' : AlikeButTerms t u) : AlikeButTerms s u where
  running := h'.running.trans h.running
  store := h'.store.trans h.store
  service := h'.service.trans h.service
  quiet := h'.quiet.trans h.quiet
  faults := h'.faults.trans h.faults
  contents := h'.contents.trans h.contents
  expected := h'.expected.trans h.expected
  eye1 := h'.eye1.trans h.eye1
  eye2 := h'.eye2.trans h.eye2
  eyeX := h'.eyeX.trans h.eyeX
  ex := h'.ex.trans h.ex
  drive := h'.drive.trans h.drive
  runOn := h'.runOn.trans h.runOn
  nt := h'.nt.trans h.nt
  period := h'.period.trans h.period
  sl := h'.sl.trans h.sl
  calls := h'.calls.trans h.calls
  stationOpen := h'.stationOpen.trans h.stationOpen
  stopSetOk := h'.stopSetOk ∘ h.stopSetOk
  replies := h'.replies ∘ h.replies

theorem Alike.trans {s t u : State} (h : Alike s t) (h' : Alike t u) : Alike s u :=
  { h.toAlikeButTerms.trans h'.toAlikeButTerms with
    localTerm := h'.localTerm.trans h.localTerm
    stopSet := h'.stopSet.trans h.stopSet
    startHold := h'.startHold.trans h.startHold }

theorem AlikeButTerms.refl (s : State) : AlikeButTerms s s := by constructor <;> simp

theorem Alike.refl (s : State) : Alike s s := { AlikeButTerms.refl s with localTerm := rfl, stopSet := rfl, startHold := rfl }

theorem AlikeButTerms.configured {s t : State} (h : AlikeButTerms s t) : configured t = configured s :=
  configured_of_sn h.service

theorem AlikeButTerms.role {s t : State} (h : AlikeButTerms s t) : role t = role s := by
  rw [Machine.role, Machine.role, h.running]

theorem AlikeButTerms.inService {s t : State} (h : AlikeButTerms s t) : inService t = inService s := by
  rw [Machine.inService, Machine.inService, h.service]

theorem AlikeButTerms.queue_isEmpty {s t : State} (h : AlikeButTerms s t) :
    t.zq.queue.isEmpty = s.zq.queue.isEmpty := by
  have := congrArg List.isEmpty h.contents
  simpa using this

theorem AlikeButTerms.headAtExit {s t : State} (h : AlikeButTerms s t) : headAtExit t = headAtExit s := by
  rw [Machine.headAtExit, Machine.headAtExit, h.queue_isEmpty, h.eyeX]

theorem Alike.halted {s t : State} (h : Alike s t) : halted t = halted s := by
  rw [Machine.halted, Machine.halted, h.localTerm, h.stopSet, h.startHold]

/-! ## Changes of LI (R141 to R148) -/

/-- LI alone changes, and an UNCONFIGURED node's list still holds only REPLY frames. -/
theorem Alike.of_line {s : State} {li : LineInterface}
    (h : (∀ e ∈ s.li.tx, PlainReply e) → ∀ e ∈ li.tx, PlainReply e) : Alike s { s with li := li } :=
  { AlikeButTerms.refl s with
    localTerm := rfl, stopSet := rfl, startHold := rfl, replies := fun hr hc => h (hr hc) }

/-- LI alone changes, and not in its list. -/
theorem Alike.of_sameList {s : State} {li : LineInterface} (h : li.tx = s.li.tx) : Alike s { s with li := li } :=
  .of_line (by rw [h]; exact id)

theorem placeFrame_plainReply {f : Frame} {li : LineInterface} (hk : f.kind = .reply)
    (h : ∀ e ∈ li.tx, PlainReply e) : ∀ e ∈ (placeFrame f li).1.tx, PlainReply e := by
  rw [LineProofs.placeFrame_unreplaced (by simp [hk])]
  split
  · exact h
  · exact List.forall_mem_append.2 ⟨h, List.forall_mem_singleton.2 (plainReply_freshEntry hk)⟩

theorem sendFrame_alike (f : Frame) (s : State) : Alike s (sendFrame f s) := by
  cases hc : configured s with
  | true =>
    rw [LineProofs.sendFrame_placing (.inl hc)]
    exact { Alike.refl s with replies := fun _ hn => absurd (hc.symm.trans hn) (by decide) }
  | false =>
    by_cases hk : f.kind = .reply
    · rw [LineProofs.sendFrame_placing (.inr hk)]
      exact .of_line (placeFrame_plainReply hk)
    · rw [LineProofs.sendFrame_refused hc hk]
      exact .refl s

theorem sendNotice_alike (k : NoticeKind) (d : Byte) (t v : Word16) (s : State) : Alike s (sendNotice k d t v s) :=
  sendFrame_alike _ s

theorem driveSlot_alike (b : Slot) (s : State) : Alike s (driveSlot b s) := .of_sameList rfl

theorem frameHeard_alike (s : State) : Alike s (frameHeard s) := .of_sameList rfl

theorem countReceiveError_alike (s : State) : Alike s (countReceiveError s) := .of_sameList rfl

theorem awaitRelease_alike (s : State) : Alike s (awaitRelease s) := .of_sameList rfl

theorem sendAbort_alike (s : State) : Alike s (sendAbort s) := .of_sameList rfl

theorem stoppedEntry_plainReply {e : TxEntry} (h : PlainReply e) : PlainReply (stoppedEntry e) := by
  rw [LineProofs.stoppedEntry_kept h.2]; exact h

/-- A change of an entry that leaves a REPLY a REPLY. -/
theorem changeEntry_alike {f : TxEntry → TxEntry} (h : ∀ e, PlainReply e → PlainReply (f e)) (n : Nat) (s : State) :
    Alike s (changeEntry f n s) := by
  refine .of_line fun replies e he => ?_
  obtain ⟨i, hi⟩ := List.mem_iff_getElem?.1 he
  rw [List.getElem?_modify, Option.map_eq_map, Option.map_eq_some_iff] at hi
  obtain ⟨x, hx, rfl⟩ := hi
  have plain := replies x (List.mem_of_getElem? hx)
  split
  · exact h x plain
  · exact plain

/-- A frame that leaves the list (R145). -/
theorem leaveList_alike {e : TxEntry} {s : State} (he : e ∈ s.li.tx) (n : Nat) : Alike s (leaveList n e s) := by
  refine .of_line fun replies => ?_
  obtain ⟨-, plain⟩ := replies e he
  simp only [plain]
  exact fun x hx => replies x (List.mem_of_mem_eraseIdx hx)

theorem stopDriving_alike (s : State) : Alike s (stopDriving s) := by
  refine .of_line fun replies e he => ?_
  obtain ⟨x, hx, rfl⟩ := List.mem_map.1 he
  exact replies x hx

/-! ## Changes of counts, timers and tags, and of SS -/

theorem reachExpiry_alike (m : Timer) (s : State) : Alike s (reachExpiry m s) := by
  unfold reachExpiry; split
  · exact .refl s
  · exact { Alike.refl s with }

theorem count_alike (f : Counts → Counts) (s : State) : Alike s (count f s) := { Alike.refl s with }

theorem setup_alike {s : State} {ss : SetupStore} (hr : ss.running = s.ss.running) (hs : ss.store = s.ss.store) :
    Alike s { s with ss := ss } := { Alike.refl s with running := hr, store := hs }

theorem decideWrite_alike (source target : Addr) (item : Byte) (value : Word16) (s : State) :
    Alike s (decideWrite source target item value s) := by
  unfold decideWrite; split
  · refine Alike.trans ?_ (sendFrame_alike ..)
    exact setup_alike rfl rfl
  · exact setup_alike rfl rfl

theorem applyRead_alike (value : Word16) (s : State) : Alike s (applyRead value s) := by
  have tagged : Alike s { s with zq := { s.zq with queue := tagTail (tagOfWord value) s.zq.queue } } :=
    { Alike.refl s with contents := CallProofs.tagTail_contents .. }
  unfold applyRead; split
  · exact .refl s
  · simp only []; split
    · exact tagged
    · exact tagged.trans (sendNotice_alike ..)

theorem convert_alike (probe current : AdcCode) {s : State} (runs : s.su.period.isSome = true) :
    Alike s (convert probe current s) := { Alike.refl s with period := by simp [convert, runs] }

theorem setFaultCount_alike (n : Nat) (s : State) : Alike s (setFaultCount n s) := { Alike.refl s with }

theorem changePending_alike (f : StageResult → StageResult) (s : State) : Alike s (changeQueue (changePending f) s) :=
  { Alike.refl s with contents := by simp [changeQueue, changePending, Function.comp_def] }

/-- DC's judgement of a current changes its counts alone, or is a detection of JAM besides (R62). -/
theorem judgeCurrent_alike (n : Nat) (s : State) : ∃ u, Alike s u
    ∧ (judgeCurrent n s = u ∨ judgeCurrent n s = latchFault .jam 0 0 (BitVec.ofNat 16 n) u) := by
  have counted (skip high : Nat) : Alike s { s with dc := { s.dc with skip := skip, high := high } } :=
    { Alike.refl s with }
  simp only [judgeCurrent]; split
  · exact ⟨s, .refl s, .inl rfl⟩
  split
  · exact ⟨_, counted .., .inl rfl⟩
  split
  · exact ⟨_, counted .., .inl rfl⟩
  split
  · exact ⟨_, counted .., .inl rfl⟩
  · exact ⟨_, counted .., .inr rfl⟩

theorem sendStop_alike (s : State) : Alike s (sendStop s) :=
  (sendFrame_alike _ s).trans { Alike.refl _ with }

/-! ## Changes of the halt terms (R17, R151, R152) -/

theorem addStop_alike (a : Addr) (s : State) : AlikeButTerms s (addStop a s) := by
  unfold addStop; split
  · rename_i h
    simp only [isStation, isZone, isPanel, Bool.and_eq_true, Bool.or_eq_true, decide_eq_true_eq, beq_iff_eq,
      Bool.not_eq_true', List.contains_eq_mem, decide_eq_false_iff_not] at h
    obtain ⟨station, fresh⟩ := h
    have inRange : 1 ≤ a.toNat ∧ a.toNat ≤ 62 := by
      rcases station with ⟨low, high⟩ | rfl | rfl
      · omega
      · decide
      · decide
    refine { AlikeButTerms.refl s with stopSetOk := fun ⟨nodup, range⟩ => ⟨?_, fun x hx => ?_⟩ }
    · exact List.nodup_append.2 ⟨nodup, by simp, fun x hx y hy he => fresh (by simp_all)⟩
    · rcases List.mem_append.1 hx with hx | hx
      · exact range x hx
      · rw [List.mem_singleton.1 hx]; exact inRange
  · exact .refl s

theorem removeStop_alike (a : Addr) (s : State) : AlikeButTerms s (removeStop a s) := by
  unfold removeStop; split
  · exact { AlikeButTerms.refl s with stopSetOk := fun _ => by simp [StopSetOk] }
  split
  · exact { AlikeButTerms.refl s with
      stopSetOk := fun ⟨nodup, range⟩ => ⟨nodup.filter _, fun x hx => range x (List.mem_of_mem_filter hx)⟩ }
  · exact .refl s

theorem pressEstop_alike (s : State) : AlikeButTerms s (pressEstop s) :=
  AlikeButTerms.trans (t := { s with sn := { s.sn with estop := true, localTerm := true, estopRelease := none } })
    { AlikeButTerms.refl s with } (sendStop_alike _).toAlikeButTerms

theorem releaseEstop_alike (s : State) : AlikeButTerms s (releaseEstop s) :=
  AlikeButTerms.trans (t := { s with sn := { s.sn with localTerm := false, estopRelease := none } })
    { AlikeButTerms.refl s with } (sendFrame_alike ..).toAlikeButTerms

/-- What a change of the halt terms does: a halt begins, or it ends, or the node is halted or not as before. -/
theorem changeTerms_cases (change : State → State) (s : State) :
    (halted (change s) = true ∧ halted s = false ∧ changeTerms change s = haltBegins (change s))
    ∨ (halted (change s) = false ∧ halted s = true ∧ changeTerms change s = haltEnds (change s))
    ∨ (halted (change s) = halted s ∧ changeTerms change s = change s) := by
  cases after : halted (change s) <;> cases before : halted s <;> simp [changeTerms, after, before]

end Sys2Proof.StepProofs
end

section
/-! The walk through every command: a condition that each event keeps, every step keeps. -/

namespace Sys2Proof.StepProofs
open Sys2Proof.Machine

/-! # What every event keeps, every step keeps

## The events of a command -/

/-- Each event of the node keeps the condition `I`: an event that the tests follow leaves `J`, from which they restore
`I`, and any other leaves `I`. The two events that are the effect of one command alone are asked of that command `c`
alone. -/
structure Keeps (c : Instr) (I J : State → Prop) : Prop where
  alike {s t : State} : Alike s t → I s → I t
  within {s t : State} : Alike s t → J s → J t
  before {s : State} : I s → J s
  tests {s : State} : J s → I (settle s)
  -- events that no test follows
  otherEye (inlet : Inlet) {s : State} : I s → takesEntryEye inlet s = false → I (setEntryEye inlet true s)
  period {s : State} : I s → s.nt.period.isSome = true → I (placeState s)
  renotice (k : FaultKind) (f : LatchedFault) {s : State} :
    I s → latched? s.sn.faults k = some f → I (repeatNotice k f s)
  restated (e : CallEntry) {s : State} : I s → role s = .load → I (repeatCall e s)
  written (w : WriteCycle) {s : State} : c = .writeCycleCompletion → I s → I (completeWrite w s)
  -- detections
  latch (k : FaultKind) (d : Byte) (t v : Word16) {s : State} :
    I s → configured s = true ∨ s.su.period.isSome = true → I (latchFault k d t v s)
  latchAmid (k : FaultKind) (d : Byte) (t v : Word16) {s : State} : J s → configured s = true → J (latchFault k d t v s)
  -- events at the inlets and at the exit
  eye (inlet : Inlet) (blocked : Bool) {s : State} : I s → J (setEntryEye inlet blocked s)
  arrived (n : Nat) {s : State} : J s → configured s = true → J (arrive n s)
  stray (d : Byte) (v : Word16) {s : State} : J s → configured s = true → J (makeStray d v s)
  exitBlocked {s : State} : I s → J (setExitEye true s)
  exitClear {s : State} : I s → configured s = false ∨ s.zq.queue = [] → J (setExitEye false s)
  rackGone {s : State} : I s → configured s = true → s.zq.queue ≠ [] → J (rackGoneFromExit (setExitEye false s))
  head (f : RackRecord → RackRecord) {s : State} : I s → J (changeHead f s)
  -- the expected list and the handover
  lost (n : Nat) {s : State} : J s → J (loseExpected n s)
  dropped (n : Nat) {s : State} : I s → J (dropExpected n s)
  passed (source : Addr) (body : List Byte) (u : Inlet) {s : State} :
    I s → passDecision source s = some u → J (joinExpected source body u s)
  accepted (w : Word16) {s : State} : I s → s.ex.exit = .offering → J (acceptOffer w s)
  refused (z : Option Addr) {s : State} : I s → s.ex.exit = .offering → J (refuseOffer z s)
  travelled {s : State} : I s → s.ex.exit = .switching → J (travelDone s)
  stuck {s : State} : I s → s.ex.exit = .releasing → J (releaseStuck s)
  runOnEnds {s : State} : I s → J (cancelRunOn s)
  neighbours (f : Neighbour → Neighbour) {s : State} :
    I s → J { s with nt := { s.nt with entries := s.nt.entries.map f } }
  holdOffEnds (f : Neighbour → Neighbour) {s : State} :
    I s → J { s with nt := { s.nt with entries := s.nt.entries.map f }
                     ex := { s.ex with holdOff := none, holdOffZone := none } }
  -- calls
  fewerCalls (p : CallEntry → Bool) {s : State} : I s → J { s with cl := { s.cl with calls := s.cl.calls.filter p } }
  storedCall (key : CallKey) {s : State} : I s → role s = .spur → J (storeCall key s)
  opened {s : State} : I s → role s = .load → J { s with cl := { s.cl with stationOpen := true } }
  closed {s : State} : I s → role s = .load →
    J (withdrawAll s.cl.calls.length { s with cl := { s.cl with stationOpen := false } })
  -- halts and service
  terms {change : State → State} {s : State} : I s → AlikeButTerms s (change s) → J (changeTerms change s)
  sampling {s : State} : J s → configured s = true → J (startSampling s)
  quietEnds {s : State} : c = .quietTimerExpiry → I s → s.sn.service = .recovering →
    J { s with sn := { s.sn with service := .serving, quiet := none } }
  cleared (code : Byte) {s : State} : I s → configured s = true → J (unlatch code s)

/-- The walk ends with the condition `I`, or with a reset taken from a state that has it. -/
abbrev EndsIn (I : State → Prop) (t : State) : Prop := I t ∨ ∃ cause s, I s ∧ t = resetNode cause s

theorem mem_of_sendingEntry {s : State} {n : Nat} {e : TxEntry} (h : sendingEntry s = some (n, e)) : e ∈ s.li.tx := by
  obtain ⟨i, -, hi⟩ := Option.bind_eq_some_iff.1 h
  obtain ⟨x, hx, he⟩ := Option.map_eq_some_iff.1 hi
  obtain ⟨-, rfl⟩ := Prod.mk.inj he
  exact List.mem_of_getElem? hx

section Walk

variable {c : Instr} {I J : State → Prop} (K : Keeps c I J)
include K

theorem Keeps.settled {s : State} (h : I s) : I (settle s) := K.tests (K.before h)

/-- An expiry: the moment it is taken at is nothing that a condition reads. -/
theorem Keeps.onExpiry {o : Option Timer} {f : State → State} {s : State} (h : I s)
    (hf : ∀ m, o = some m → I (reachExpiry m s) → I (f (reachExpiry m s))) : I (onExpiry o f s) := by
  cases o with
  | none => exact h
  | some m => exact hf m rfl (K.alike (reachExpiry_alike m s) h)

/-! ## Frames received (R148 to R150) -/

theorem Keeps.takePass (source : Addr) (body : List Byte) {s : State} (h : I s) : I (takePass source body s) := by
  unfold Machine.takePass; split
  · exact K.alike (driveSlot_alike ..) h
  · exact K.alike (driveSlot_alike ..) (K.tests (K.passed source body _ h ‹_›))

theorem Keeps.takeRecall (source : Addr) (serial : Byte) {s : State} (h : I s) : I (takeRecall source serial s) := by
  unfold Machine.takeRecall; split
  · exact K.alike (driveSlot_alike ..) h
  · exact K.alike (driveSlot_alike ..) (K.tests (K.dropped _ h))

theorem Keeps.takeSettled (station serial : Byte) {s : State} (h : I s) : I (takeSettled station serial s) := by
  unfold Machine.takeSettled; split
  · exact h
  split
  · exact K.tests (K.fewerCalls _ h)
  · exact h

theorem Keeps.takeCall (station serial : Byte) {s : State} (h : I s) : I (takeCall station serial s) := by
  unfold Machine.takeCall; split
  · exact K.tests (K.storedCall _ h ‹_›)
  · exact h

/-- A STATE taken changes a neighbour's entry, and may end the hold-off that the neighbour started. -/
theorem Keeps.takeState (source : Addr) (b : StateBody) {s : State} (h : I s) : I (takeState source b s) := by
  unfold Machine.takeState; split
  · refine K.tests ?_
    unfold endHoldOffOn; split
    · exact K.holdOffEnds _ h
    · exact K.neighbours _ h
  · exact h

theorem Keeps.takeAsk (source target : Addr) (topic index : Byte) {s : State} (h : I s) :
    EndsIn I (takeAsk source target topic index s) := by
  have answered : I (driveSlot .ack s) := K.alike (driveSlot_alike ..) h
  simp only [Machine.takeAsk]; split
  · simp only [replyToAsk]; split
    · exact .inr ⟨_, _, answered, rfl⟩
    · exact .inl (K.alike (sendFrame_alike ..) answered)
  · exact .inl answered

theorem Keeps.takeSetup (source : Addr) {effect : State → State} {s : State} (h : I s) (he : Alike s (effect s)) :
    I (takeSetup source effect s) := by
  unfold Machine.takeSetup; split
  · exact K.alike (he.trans (driveSlot_alike ..)) h
  · exact K.alike (driveSlot_alike ..) h

/-- The owner of a kind takes a frame. CLEAR comes to a configured node alone. -/
theorem Keeps.deliver (f : Frame) {s : State} (h : I s)
    (hf : configured s = true ∨ targetAllowed f.kind setupAddr = true) : EndsIn I (deliver f s) := by
  unfold Machine.deliver
  match kind : f.kind with
  | .stop => exact .inl (K.tests (K.terms h (addStop_alike _ s)))
  | .go => exact .inl (K.tests (K.terms h (removeStop_alike _ s)))
  | .pass => exact .inl (K.takePass _ _ h)
  | .recall => exact .inl (K.takeRecall _ _ h)
  | .answer | .decline => exact .inl (K.takeSettled _ _ h)
  | .call => exact .inl (K.takeCall _ _ h)
  | .state => exact .inl (K.takeState _ _ h)
  | .ask => exact K.takeAsk _ _ _ _ h
  | .clear =>
    have inUse : configured s = true := hf.resolve_right (by rw [kind]; decide)
    exact .inl (K.alike (driveSlot_alike ..) (K.tests (K.cleared _ h inUse)))
  | .setupEnable => exact .inl (K.takeSetup _ h (setup_alike rfl rfl))
  | .setupWrite => exact .inl (K.takeSetup _ h (decideWrite_alike ..))
  | .setupRead => exact .inl (K.takeSetup _ h (sendFrame_alike ..))
  | .notice | .reply | .reserved => exact .inl h

theorem Keeps.deliverAtSetup (f : Frame) {s : State} (h : I s)
    (hf : configured s = true ∨ targetAllowed f.kind setupAddr = true) : EndsIn I (deliverAtSetup f s) := by
  unfold Machine.deliverAtSetup; split
  · exact K.deliver f h hf
  · exact .inl h

theorem Keeps.takeGood (f : Frame) {s : State} (h : I s) (hc : configured s = true) : EndsIn I (takeGood f s) := by
  unfold Machine.takeGood; split
  · split
    · exact .inl (K.alike (driveSlot_alike ..) h)
    · exact .inl h
  split
  · exact K.deliver f h (.inl hc)
  split
  · exact K.deliverAtSetup f h (.inl hc)
  · exact .inl h

theorem Keeps.acceptGood (f : Frame) {s : State} (h : I s) : EndsIn I (acceptGood f s) := by
  unfold Machine.acceptGood; split
  · exact .inl h
  split
  · rename_i hc
    unfold testDuplicate; split
    · refine K.takeGood f (K.latch _ _ _ _ h (.inl hc)) ?_
      exact (RackProofs.latchFault_retains ..).inUse.trans hc
    · exact K.takeGood f h hc
  split
  · rename_i hs
    simp only [Bool.and_eq_true, beq_iff_eq] at hs
    exact K.deliverAtSetup f h (.inr (hs.2 ▸ hs.1))
  · exact .inl h

theorem Keeps.receiveFrame (f : Frame) {s : State} (h : I s) : EndsIn I (receiveFrame f s) := by
  have heard : I (frameHeard s) := K.alike (frameHeard_alike s) h
  unfold Machine.receiveFrame; split
  · exact .inl h
  split
  · exact K.acceptGood f heard
  · exact .inl (K.alike (countReceiveError_alike _) heard)

theorem Keeps.receiveLine (f : LineFrame) {s : State} (h : I s) : EndsIn I (receiveLine f s) := by
  unfold Machine.receiveLine; split
  · exact .inl h
  split
  · exact .inl (K.alike ((frameHeard_alike s).trans (countReceiveError_alike _)) h)
  · exact K.receiveFrame f.frame h

/-! ## Frames sent (R145 to R147, R156) -/

theorem Keeps.tellOwner (outcome : SendOutcome) (f : Frame) {s : State} (h : I s) :
    EndsIn I (tellOwner outcome f s) := by
  unfold Machine.tellOwner; split
  · exact .inr ⟨_, _, h, rfl⟩
  split
  · rename_i offered
    have offering : s.ex.exit = .offering := by simp_all
    refine .inl (K.tests ?_)
    cases outcome with
    | acknowledged => exact K.accepted _ h offering
    | held | failed => exact K.refused _ h offering
  · exact .inl h

theorem Keeps.failFrame {e : TxEntry} {s : State} (h : I s) (he : e ∈ s.li.tx) (n : Nat) :
    EndsIn I (failFrame n e s) := by
  unfold Machine.failFrame
  refine K.tellOwner _ _ (K.alike ?_ h)
  have dropped : Alike (leaveList n e s)
      { leaveList n e s with li := { (leaveList n e s).li with lineDrops := (leaveList n e s).li.lineDrops + 1 } } :=
    .of_sameList rfl
  refine ((leaveList_alike he n).trans dropped).trans ?_
  split
  · exact .refl _
  · exact sendNotice_alike ..

theorem Keeps.failAttempt {e : TxEntry} {s : State} (h : I s) (he : e ∈ s.li.tx) (n : Nat) :
    EndsIn I (failAttempt n e s) := by
  unfold Machine.failAttempt; split
  · exact .inl (K.alike (changeEntry_alike (fun _ => stoppedEntry_plainReply) ..) h)
  split
  · exact K.failFrame h he n
  · exact .inl (K.alike
      (changeEntry_alike (f := fun e => { e with attempts := e.attempts + 1, sending := false }) (fun _ hp => hp) ..) h)

theorem Keeps.replySlot (ack hold : Bool) {s : State} (h : I s) {n : Nat} {e : TxEntry}
    (he : sendingEntry s = some (n, e)) :
    EndsIn I (if e.frame.target = 0 then s
      else if hold then Machine.tellOwner .held e.frame (leaveList n e s)
      else if ack then Machine.tellOwner .acknowledged e.frame (leaveList n e s)
      else Machine.failAttempt n e s) := by
  have member := mem_of_sendingEntry he
  have left : I (leaveList n e s) := K.alike (leaveList_alike member n) h
  split
  · exact .inl h
  split
  · exact K.tellOwner _ _ left
  split
  · exact K.tellOwner _ _ left
  · exact K.failAttempt h member n

/-! ## Samples (R95): beside its detections, a sample changes nothing that a condition reads -/

theorem Keeps.converted (probe current : AdcCode) {s : State} (h : I s) (runs : s.su.period.isSome = true) :
    I (WashProofs.converted probe current s) := by
  have same := convert_alike probe current runs
  obtain ⟨u, same', judged | jam⟩ :=
    judgeCurrent_alike (currentOf (itemNat s.ss.running .iSpan) current) (convert probe current s)
  · rw [WashProofs.converted, judged]
    exact K.alike (same.trans same') h
  · rw [WashProofs.converted, jam]
    have running : u.su.period.isSome = true := ((same.trans same').period).trans runs
    exact K.latch _ _ _ _ (K.alike (same.trans same') h) (.inr running)

theorem Keeps.faultedSample (probe : AdcCode) {s : State} (h : I s) (runs : s.su.period.isSome = true) :
    I (faultedSample probe s) := by
  have marked := (changePending_alike markFault s).trans (setFaultCount_alike (min (s.su.faultCount + 1) 3) _)
  unfold Machine.faultedSample; simp only []; split
  · exact K.latch _ _ _ _ (K.alike marked h) (.inr (marked.period.trans runs))
  · exact K.alike marked h

theorem Keeps.goodSample (probe : AdcCode) {s : State} (h : I s) : I (goodSample probe s) := by
  unfold Machine.goodSample; simp only []; split
  · exact K.alike (setFaultCount_alike 0 s) h
  · exact K.alike ((setFaultCount_alike 0 s).trans (changePending_alike ..)) h

theorem Keeps.takeSample (probe current : AdcCode) {s : State} (h : I s) (runs : s.su.period.isSome = true) :
    I (takeSample probe current s) := by
  have taken := K.converted probe current h runs
  rw [WashProofs.takeSample_eq]; split
  · split
    · exact K.faultedSample probe taken (by simp [convert])
    · exact K.goodSample probe taken
  · exact taken

/-! ## Eyes, buttons and the start hold -/

theorem Keeps.rackAtInlet (inlet : Inlet) {s : State} (h : J s) (hc : configured s = true) : J (rackAtInlet inlet s) := by
  unfold Machine.rackAtInlet; split
  · have latched := K.latchAmid .overfull (inletDetail inlet s) 0 (inletValue inlet) h hc
    unfold overfull; simp only []; split
    · exact latched
    · exact K.lost _ latched
  split
  · exact K.arrived _ h hc
  · exact K.stray _ _ h hc

theorem Keeps.entryEyeBlocked (inlet : Inlet) {s : State} (h : I s) :
    I (let s := setEntryEye inlet true s
      if takesEntryEye inlet s then settle (Machine.rackAtInlet inlet s) else s) := by
  have same : takesEntryEye inlet (setEntryEye inlet true s) = takesEntryEye inlet s := by cases inlet <;> rfl
  simp only [same]; split
  · rename_i takes
    have inUse : configured (setEntryEye inlet true s) = true := by
      simp only [takesEntryEye, Bool.and_eq_true] at takes
      cases inlet <;> exact takes.1
    exact K.tests (K.rackAtInlet inlet (K.eye inlet true h) inUse)
  · exact K.otherEye inlet h (by simp_all)

theorem Keeps.exitEyeBlocked {s : State} (h : I s) :
    I (let s := setExitEye true s
      settle (if configured s && s.zq.queue.isEmpty then makeStray 0 0 s else s)) := by
  refine K.tests ?_
  split
  · rename_i seen
    simp only [Bool.and_eq_true] at seen
    exact K.stray _ _ (K.exitBlocked h) seen.1
  · exact K.exitBlocked h

theorem Keeps.exitEyeClear {s : State} (h : I s) :
    I (let s := setExitEye false s
      settle (if configured s then rackGoneFromExit s else s)) := by
  have same : configured (setExitEye false s) = configured s := rfl
  refine K.tests ?_
  cases hc : configured s with
  | false => simpa [same, hc] using K.exitClear h (.inl hc)
  | true =>
    simp only [same, hc, if_true]
    by_cases hq : s.zq.queue = []
    · simpa [rackGoneFromExit, setExitEye, hq] using K.exitClear h (.inr hq)
    · exact K.rackGone h hc hq

theorem Keeps.pressEmpty {s : State} (h : I s) : J (pressEmpty s) := by
  unfold Machine.pressEmpty; split
  · exact K.before h
  split
  · exact K.before h
  split
  · exact K.before (K.alike (sendNotice_alike ..) h)
  · exact K.head _ h

theorem Keeps.startHold {s : State} (h : I s) :
    I (let s := changeTerms (fun s => { s with sn := { s.sn with startHold := none } }) s
      settle (if configured s then startSampling s else s)) := by
  have ended := K.terms (change := fun s => { s with sn := { s.sn with startHold := none } }) h
    { AlikeButTerms.refl s with }
  refine K.tests ?_
  split
  · exact K.sampling ended ‹_›
  · exact ended

theorem Keeps.neighbourLost (zone : Addr) {s : State} (h : I s) : I (settle (loseNeighbour zone s)) :=
  K.tests (K.within (sendNotice_alike ..) (K.neighbours _ h))

theorem Keeps.holdOff {s : State} (h : I s) :
    I (settle { s with ex := { s.ex with holdOff := none, holdOffZone := none } }) := by
  simpa using K.tests (K.holdOffEnds id h)

/-! ## Every command -/

omit K in
/-- An effect that RESETN, active, holds back. -/
theorem endsIn_running {f : State → State} {s : State} (h : I s) (hf : EndsIn I (f s)) :
    EndsIn I (whileRunning f s) := by
  unfold whileRunning; split
  · exact .inl h
  · exact hf

/-- The expiries of the node's timers. -/
theorem Keeps.execExpiry {s t : State} (h : I s) (hc : isExpiry c = true) (ht : exec c s = .next t) : I t := by
  have held : ∀ {f : State → State}, I (f s) → I (whileRunning f s) := fun {f} hf => by
    unfold whileRunning; split
    · exact h
    · exact hf
  cases c with
  | startHoldExpiry => cases ht; exact held (K.onExpiry h fun _ _ h => K.startHold h)
  | quietTimerExpiry =>
    cases ht; refine held ?_
    split
    · rename_i recovering
      exact K.onExpiry h fun _ _ h => K.tests (K.quietEnds rfl h (by simpa using recovering))
    · exact h
  | estopReleaseExpiry =>
    cases ht; exact held (K.onExpiry h fun _ _ h => K.tests (K.terms h (releaseEstop_alike _)))
  | stopRepeatExpiry => cases ht; exact held (K.onExpiry h fun _ _ h => K.alike (sendStop_alike _) h)
  | tagReadWindowExpiry =>
    cases ht; exact held (K.onExpiry h fun m _ h => K.alike { Alike.refl (reachExpiry m s) with } h)
  | arrivalWindowExpiry n =>
    cases ht; refine held ?_
    split
    · exact h
    · exact K.onExpiry h fun _ _ h => K.tests (K.lost n (K.before h))
  | holdOffExpiry => cases ht; exact held (K.onExpiry h fun _ _ h => K.holdOff h)
  | diverterTravelExpiry =>
    cases ht; refine held ?_
    split
    · rename_i switching
      exact K.onExpiry h fun _ _ h => K.tests (K.travelled h (by simpa using switching))
    · exact h
  | releaseLimitExpiry =>
    cases ht; refine held ?_
    split
    · rename_i releasing
      exact K.onExpiry h fun _ _ h => K.tests (K.stuck h (by simpa using releasing))
    · exact h
  | runOnExpiry => cases ht; exact held (K.onExpiry h fun _ _ h => K.tests (K.runOnEnds h))
  | neighbourSilenceExpiry z =>
    cases ht; refine held ?_
    split
    · exact h
    · exact K.onExpiry h fun _ _ h => K.neighbourLost z h
  | statePeriodExpiry =>
    cases ht; exact held (K.onExpiry h fun _ runs h => K.period h (by simp [runs]))
  | sampleCompletion probe current =>
    cases ht; exact held (K.onExpiry h fun _ runs h => K.takeSample probe current h (by simp [runs]))
  | callRepeatExpiry n =>
    cases ht; refine held ?_
    split
    · rename_i load _
      exact K.onExpiry h fun _ _ h => K.restated _ h (by simpa [role] using load)
    · exact h
  | callExpiry st n =>
    cases ht; refine held ?_
    split
    · exact K.onExpiry h fun _ _ h => K.tests (K.fewerCalls _ h)
    · exact h
  | noticeRepeatExpiry k =>
    cases ht; refine held ?_
    split
    · exact h
    · rename_i f latched
      exact K.onExpiry h fun _ _ h => K.renotice k f h (by simpa using latched)
  | setupWindowExpiry => cases ht; exact held (K.onExpiry h fun _ _ h => K.alike (setup_alike rfl rfl) h)
  | writeCycleCompletion =>
    cases ht; refine held ?_
    split
    · exact h
    · exact K.onExpiry h fun _ _ h => K.written _ rfl h
  | _ => simp [isExpiry] at hc

/-- The commands that are no expiry: those of the pins and of the line, and the resets. -/
theorem Keeps.execInput {s t : State} (h : I s)
    (hc : isExpiry c = false) (ht : exec c s = .next t) : EndsIn I t := by
  cases c with
  | entryEyeBlocked inlet => cases ht; exact endsIn_running h (.inl (K.entryEyeBlocked inlet h))
  | entryEyeClear inlet => cases ht; exact endsIn_running h (.inl (K.tests (K.eye inlet false h)))
  | exitEyeBlocked => cases ht; exact endsIn_running h (.inl (K.exitEyeBlocked h))
  | exitEyeClear => cases ht; exact endsIn_running h (.inl (K.exitEyeClear h))
  | rackFullPress =>
    cases ht; refine endsIn_running h (.inl ?_)
    split
    · exact K.tests (K.head _ h)
    · exact h
  | rackEmptyPress =>
    cases ht; refine endsIn_running h (.inl ?_)
    split
    · exact K.tests (K.pressEmpty h)
    · exact h
  | stationOpened =>
    cases ht; refine endsIn_running h (.inl ?_)
    split
    · rename_i load
      simp only [Bool.and_eq_true, decide_eq_true_eq] at load
      exact K.tests (K.opened h load.2)
    · exact h
  | stationClosed =>
    cases ht; refine endsIn_running h (.inl ?_)
    split
    · rename_i load
      simp only [Bool.and_eq_true, decide_eq_true_eq] at load
      exact K.tests (K.closed h load.2)
    · exact h
  | tagRead value =>
    cases ht; refine endsIn_running h (.inl ?_)
    split
    · exact K.alike (applyRead_alike ..) h
    · exact h
  | estopActive => cases ht; exact endsIn_running h (.inl (K.tests (K.terms h (pressEstop_alike s))))
  | estopReleased =>
    cases ht; refine endsIn_running h (.inl ?_)
    split
    · exact K.alike { Alike.refl s with } h
    · exact h
  | setupButtonPress => cases ht; exact endsIn_running h (.inl (K.alike (setup_alike rfl rfl) h))
  | lineReleased => cases ht; exact endsIn_running h (.inl (K.alike (.of_sameList rfl) h))
  | lineBusy =>
    cases ht; refine endsIn_running h (.inl ?_)
    split
    · exact K.alike (frameHeard_alike s) h
    · exact h
  | frameSendStart =>
    cases ht; refine endsIn_running h (.inl ?_)
    have started (n : Nat) : Alike s (changeEntry (fun e => { e with sending := true }) n s) :=
      changeEntry_alike (f := fun e => { e with sending := true }) (fun _ plain => plain) n s
    split
    · split
      · exact h
      · exact K.alike ((started _).trans (frameHeard_alike _)) h
    · exact h
  | arbitrationLost =>
    cases ht; refine endsIn_running h (.inl ?_)
    split
    · exact h
    · exact K.alike (changeEntry_alike (fun _ => stoppedEntry_plainReply) ..) h
  | broadcastSent =>
    cases ht; refine endsIn_running h (.inl ?_)
    split
    · exact h
    · rename_i sent
      split
      · exact K.alike (leaveList_alike (mem_of_sendingEntry sent) _) h
      · exact h
  | insertionError =>
    cases ht; refine endsIn_running h (.inl ?_)
    split
    · exact h
    · exact K.alike (((frameHeard_alike s).trans (awaitRelease_alike _)).trans (countReceiveError_alike _)) h
  | abortMark =>
    cases ht; refine endsIn_running h (.inl ?_)
    split
    · exact h
    · exact K.alike ((frameHeard_alike s).trans (awaitRelease_alike _)) h
  | powerReset | pinReset => cases ht; exact .inr ⟨_, s, h, rfl⟩
  | resetnAsserted => cases ht; exact .inl (K.alike ((stopDriving_alike s).trans { Alike.refl _ with }) h)
  | frameIgnored | stopReceived | goReceived | passReceived | recallReceived | stateReceived | callReceived
  | answerReceived | declineReceived | noticeReceived | replyReceived | clear | askStatus | askCounts | askQueue
  | askExpected | askCalls | askNeighbour | askRunning | askRestart | setupEnable | setupWrite | setupRead
  | askTopicOutsideRange =>
    cases ht; exact endsIn_running h (K.receiveFrame _ h)
  | receiveError f => cases ht; exact endsIn_running h (K.receiveLine f h)
  | selfCheckError =>
    cases ht; refine endsIn_running h ?_
    split
    · exact .inl h
    · exact K.failAttempt (K.alike (sendAbort_alike s) h) (mem_of_sendingEntry ‹_›) _
  | replySlotRead ack hold =>
    cases ht; refine endsIn_running h ?_
    split
    · exact .inl h
    · exact K.replySlot ack hold h ‹_›
  | _ => simp [isExpiry] at hc

/-- Where each event of the node keeps the condition, every command ends in it, or with a reset. -/
theorem Keeps.exec {s t : State} (h : I s) (ht : exec c s = .next t) : EndsIn I t := by
  cases hc : isExpiry c with
  | true => exact .inl (K.execExpiry h hc ht)
  | false => exact K.execInput h hc ht

end Walk

/-- Where each event and each reset keeps the condition, every step does. -/
theorem step_keeps {I J : State → Prop} (K : ∀ c, Keeps c I J) (reset : ∀ cause s, I s → I (resetNode cause s))
    {s t : State} (h : I s) (ht : step s = .next t) : I t := by
  have commanded {c : Instr} {u : State} (hu : I u) (ht : exec c u = .next t) : I t := by
    obtain kept | ⟨cause, v, hv, rfl⟩ := (K c).exec hu ht
    · exact kept
    · exact reset cause v hv
  unfold step at ht; split at ht
  · unfold idle at ht; split at ht
    · cases ht; exact (K .lineReleased).alike { Alike.refl s with } h
    · exact commanded h ht
    · exact commanded h ht
  · rename_i rest _
    exact commanded ((K .lineReleased).alike (t := { s with pending := rest }) { Alike.refl s with } h) ht

end Sys2Proof.StepProofs
end

section
/-! What a halt, an entry to FAULTED, a detection and a sample do to the blocks, and the exit's parts in every step. -/

namespace Sys2Proof.StepProofs
open Sys2Proof.Machine

/-! # What the shared operations do to the blocks

## A halt and an entry to FAULTED (R14, R18) -/

/-- The exit after the start of a halt or the entry to FAULTED: an offer in SWITCHING or RELEASING is recalled. -/
def stoppedExit (x : ExitController) : ExitController :=
  if x.exit = .switching ∨ x.exit = .releasing then
    { x with exit := .closed, outlet := none, serial := none, gate := false, travel := none, release := none }
  else x

@[simp] theorem stopExit_ex (s : State) : (stopExit s).ex = stoppedExit s.ex := by
  unfold stopExit stoppedExit; cases s.ex.exit <;> simp

@[simp] theorem stopExit_zq (s : State) :
    (stopExit s).zq.expected = s.zq.expected ∧ (stopExit s).zq.eye1 = s.zq.eye1 ∧ (stopExit s).zq.eye2 = s.zq.eye2
      ∧ (stopExit s).zq.eyeX = s.zq.eyeX ∧ (stopExit s).zq.queue.length = s.zq.queue.length
      ∧ (stopExit s).zq.queue.isEmpty = s.zq.queue.isEmpty ∧ (stopExit s).cl.stationOpen = s.cl.stationOpen := by
  unfold stopExit; split <;> simp

theorem setDrive_off (s : State) : (setDrive .off s).dc.drive = .off := by
  cases hd : s.dc.drive <;> simp [setDrive, hd]

/-- What entry to FAULTED leaves of the blocks. -/
theorem enterFaulted_blocks (s : State) :
    (enterFaulted s).ex = stoppedExit s.ex ∧ (enterFaulted s).zq.expected = s.zq.expected
      ∧ (enterFaulted s).zq.eye1 = s.zq.eye1 ∧ (enterFaulted s).zq.eye2 = s.zq.eye2
      ∧ (enterFaulted s).zq.eyeX = s.zq.eyeX ∧ (enterFaulted s).zq.queue.length = s.zq.queue.length
      ∧ (enterFaulted s).zq.queue.isEmpty = s.zq.queue.isEmpty ∧ (enterFaulted s).dc.drive = .off
      ∧ (enterFaulted s).dc.runOn = none ∧ (enterFaulted s).nt.entries = s.nt.entries
      ∧ (enterFaulted s).cl.stationOpen = s.cl.stationOpen := by
  simp [enterFaulted, cancelRunOn, setDrive_off]

/-! ## A detection (R14, R99, R153) -/

/-- A node with a fault latched, and no more done. -/
def withFault (k : FaultKind) (f : LatchedFault) (s : State) : State :=
  { s with sn := { s.sn with faults := setLatched s.sn.faults k (some f) } }

/-- The fault a detection latches. -/
def detected (d : Byte) (t v : Word16) (s : State) : LatchedFault :=
  { detail := d, tag := t, value := v, renotice := some (startTimer s noticeRepeatMs) }

/-- A detection of a kind that is latched does nothing; one in service makes the node FAULTED, but for PROBE; and any
other latches the fault alone. The last two send the NOTICE. -/
theorem latchFault_cases (k : FaultKind) (d : Byte) (t v : Word16) (s : State) :
    latchFault k d t v s = s
    ∨ (latched? s.sn.faults k = none ∧ k ≠ .probe ∧ inService s = true
        ∧ latchFault k d t v s = sendNotice (.fault k) d t v (enterFaulted (withFault k (detected d t v s) s)))
    ∨ (latched? s.sn.faults k = none ∧ (k = .probe ∨ inService s = false)
        ∧ latchFault k d t v s = sendNotice (.fault k) d t v (withFault k (detected d t v s) s)) := by
  have service : inService (withFault k (detected d t v s) s) = inService s := rfl
  cases hl : latched? s.sn.faults k with
  | some f => exact .inl (by simp [latchFault, hl])
  | none =>
    refine .inr ?_
    by_cases enters : k ≠ .probe ∧ inService s = true
    · refine .inl ⟨rfl, enters.1, enters.2, ?_⟩
      simp only [latchFault, hl, Option.isSome_none, Bool.false_eq_true, if_false]
      rw [if_pos (by simpa using ⟨enters.1, service.trans enters.2⟩)]
      rfl
    · refine .inr ⟨rfl, ?_, ?_⟩
      · by_cases hk : k = .probe
        · exact .inl hk
        · exact .inr (by simpa [hk] using enters)
      · simp only [latchFault, hl, Option.isSome_none, Bool.false_eq_true, if_false]
        exact congrArg _ (if_neg (by simpa [inService] using enters))

/-- A condition that a detection keeps, each way it can go. -/
theorem latchFault_keeps {I : State → Prop} {k : FaultKind} {d : Byte} {t v : Word16} {s : State} (h : I s)
    (noticed : ∀ u, I u → I (sendNotice (.fault k) d t v u))
    (enters : latched? s.sn.faults k = none → k ≠ .probe → inService s = true →
      I (enterFaulted (withFault k (detected d t v s) s)))
    (stays : latched? s.sn.faults k = none → k = .probe ∨ inService s = false →
      I (withFault k (detected d t v s) s)) :
    I (latchFault k d t v s) := by
  obtain same | ⟨hl, hk, hs, entered⟩ | ⟨hl, hs, stayed⟩ := latchFault_cases k d t v s
  · rwa [same]
  · rw [entered]; exact noticed _ (enters hl hk hs)
  · rw [stayed]; exact noticed _ (stays hl hs)

/-! # The parts of the exit (R46, R49 to R58) -/

/-- The exit's parts agree, as `ExitOk` says it. -/
structure ExitAgrees (s : State) : Prop where
  outlet : s.ex.outlet.isSome = (s.ex.exit != .closed)
  serial : s.ex.serial.isSome = (s.ex.exit != .closed)
  travel : s.ex.travel.isSome = (s.ex.exit == .switching)
  release : s.ex.release.isSome = (s.ex.exit == .releasing)
  gate : s.ex.gate = (s.ex.exit == .releasing && role s != .wash)
  inUse : s.ex.exit ≠ .closed → configured s = true
  offered : s.ex.exit = .offering → s.ex.withdrawn = false → headAtExit s = true
  moving : s.ex.exit = .switching ∨ s.ex.exit = .releasing →
    headAtExit s = true ∧ halted s = false ∧ inService s = true

theorem exitAgrees_iff (s : State) : ExitAgrees s ↔ ExitOk s :=
  ⟨fun h => ⟨h.outlet, h.serial, h.travel, h.release, h.gate, h.inUse, h.offered, h.moving⟩,
    fun ⟨outlet, serial, travel, release, gate, inUse, offered, moving⟩ =>
      ⟨outlet, serial, travel, release, gate, inUse, offered, moving⟩⟩

/-- The exit's parts stay in agreement while the head stays at the exit and an offer on its way meets no halt. -/
theorem ExitAgrees.stays {s t : State} (h : ExitAgrees s) (hx : t.ex = s.ex) (hr : t.ss.running = s.ss.running)
    (hc : configured t = configured s) (atExit : headAtExit s = true → headAtExit t = true)
    (moves : s.ex.exit = .switching ∨ s.ex.exit = .releasing → halted t = false ∧ inService t = true) :
    ExitAgrees t where
  outlet := hx ▸ h.outlet
  serial := hx ▸ h.serial
  travel := hx ▸ h.travel
  release := hx ▸ h.release
  gate := by rw [hx, h.gate, role, role, hr]
  inUse := by rw [hx, hc]; exact h.inUse
  offered := by rw [hx]; exact fun he hw => atExit (h.offered he hw)
  moving := by rw [hx]; exact fun he => ⟨atExit (h.moving he).1, moves he⟩

/-- The exit's parts are read from EX, the role, the service state, the head at the exit and the halt condition. -/
theorem ExitAgrees.congr {s t : State} (h : ExitAgrees s) (hx : t.ex = s.ex) (hr : t.ss.running = s.ss.running)
    (hs : t.sn.service = s.sn.service) (atExit : headAtExit s = true → headAtExit t = true)
    (hh : halted t = halted s) : ExitAgrees t :=
  h.stays hx hr (configured_of_sn hs) atExit fun moves => by
    obtain ⟨-, unhalted, service⟩ := h.moving moves
    exact ⟨hh.trans unhalted, by rw [inService, hs]; exact service⟩

/-- A CLOSED exit with no offer, no timer and the gate shut agrees with any state. -/
theorem exitAgrees_closed {s : State} (exit : s.ex.exit = .closed) (outlet : s.ex.outlet = none)
    (serial : s.ex.serial = none) (travel : s.ex.travel = none) (release : s.ex.release = none)
    (gate : s.ex.gate = false) : ExitAgrees s := by
  constructor <;> simp [exit, outlet, serial, travel, release, gate]

/-- An exit stopped by a halt or by the entry to FAULTED. -/
theorem ExitAgrees.stopped {s t : State} (h : ExitAgrees s) (hx : t.ex = stoppedExit s.ex)
    (hr : t.ss.running = s.ss.running) (hc : configured t = configured s)
    (atExit : headAtExit s = true → headAtExit t = true) : ExitAgrees t := by
  unfold stoppedExit at hx; split at hx
  · exact exitAgrees_closed (by rw [hx]) (by rw [hx]) (by rw [hx]) (by rw [hx]) (by rw [hx]) (by rw [hx])
  · exact h.stays hx hr hc atExit fun moves => absurd moves ‹_›

theorem headAtExit_of_zq {s t : State} (he : t.zq.queue.isEmpty = s.zq.queue.isEmpty) (hx : t.zq.eyeX = s.zq.eyeX) :
    headAtExit s = true → headAtExit t = true := by
  rw [headAtExit, headAtExit, he, hx]; exact id

theorem alike_exitAgrees {s t : State} (a : Alike s t) (h : ExitAgrees s) : ExitAgrees t :=
  h.congr a.ex a.running a.service (by rw [a.headAtExit]; exact id) a.halted

theorem configured_of_inService {s : State} (h : inService s = true) : configured s = true := by
  simp only [inService, Bool.or_eq_true, beq_iff_eq] at h
  rcases h with h | h <;> simp [configured, h]

/-- An offer that EX may make leaves the exit's parts in agreement, whether its PASS finds a place or not (R48, R49). -/
theorem testOffer_exitAgrees {s : State} (h : ExitAgrees s) : ExitAgrees (testOffer s) := by
  unfold testOffer; split
  · rename_i ready
    simp only [offerReady, Bool.and_eq_true, beq_iff_eq] at ready
    obtain ⟨⟨⟨⟨⟨atExit, service⟩, -⟩, closed⟩, -⟩, -⟩ := ready
    split
    · exact h
    · rename_i o _
      generalize (outletZone s.ss.running o).getD 0 = z
      obtain offered | failed := makeOffer_ex o z s
      · have head : headAtExit (makeOffer o z s) = true := by simpa [headAtExit] using atExit
        have inUse : configured (makeOffer o z s) = true := by
          simpa [configured] using configured_of_inService service
        exact {
          outlet := by rw [offered]; rfl
          serial := by rw [offered]; rfl
          travel := by rw [offered]; exact h.travel.trans (by rw [closed]; rfl)
          release := by rw [offered]; exact h.release.trans (by rw [closed]; rfl)
          gate := by rw [offered]; exact h.gate.trans (by rw [closed]; rfl)
          inUse := fun _ => inUse
          offered := fun _ _ => head
          moving := by rw [offered]; simp }
      · exact exitAgrees_closed (by rw [failed]) (by rw [failed]) (by rw [failed]) (by rw [failed]) (by rw [failed])
          (by rw [failed])
  · exact h

theorem settle_exitAgrees {s : State} (h : ExitAgrees s) : ExitAgrees (settle s) := by
  unfold settle; split
  · have before : ExitAgrees (testNeed (testQuiet (formJudgement s))) :=
      h.congr (by simp) (by simp) (by simp) (by simp [headAtExit]) (by simp [halted])
    exact (testOffer_exitAgrees before).congr (by simp) (by simp) (by simp) (by simp [headAtExit]) (by simp [halted])
  · exact h

theorem latchFault_exitAgrees (k : FaultKind) (d : Byte) (t v : Word16) {s : State} (h : ExitAgrees s) :
    ExitAgrees (latchFault k d t v s) := by
  refine latchFault_keeps h (fun u hu => alike_exitAgrees (sendNotice_alike ..) hu) (fun _ _ service => ?_) fun _ _ =>
    h.congr rfl rfl rfl id rfl
  obtain ⟨ex, -, -, -, eyeX, -, empty, -⟩ := enterFaulted_blocks (withFault k (detected d t v s) s)
  have inUse : configured (enterFaulted (withFault k (detected d t v s) s)) = configured s := by
    rw [configured_of_inService service]; simp [configured, WashProofs.enterFaulted_sn]
  exact h.stopped ex (by simp [withFault]) inUse (headAtExit_of_zq empty eyeX)

theorem recallOffer_exitAgrees (gone : Bool) (s : State) : ExitAgrees (recallOffer gone s) :=
  exitAgrees_closed (by simp) (by simp) (by simp) (by simp) (by simp) (by simp)

theorem changeTerms_exitAgrees {change : State → State} {s : State} (h : ExitAgrees s)
    (a : AlikeButTerms s (change s)) : ExitAgrees (changeTerms change s) := by
  have atExit : headAtExit (change s) = headAtExit s := a.headAtExit
  obtain ⟨-, -, begins⟩ | ⟨-, halts, ends⟩ | ⟨same, stays⟩ := changeTerms_cases change s
  · rw [begins]
    exact h.stopped (by simp [haltBegins, a.ex]) (by simp [a.running]) (by rw [← a.configured]; simp [haltBegins, configured, cancelQuiet])
      (by rw [← atExit]; simp [headAtExit, haltBegins, setWindows])
  · rw [ends]
    refine h.stays (by simpa using a.ex) (by simp [a.running]) (by rw [← a.configured]; simp [configured])
      (by rw [← atExit]; simp [headAtExit, haltEnds, setWindows]) fun moves => ?_
    simp [(h.moving moves).2.1] at halts
  · rw [stays]; exact h.congr a.ex a.running a.service (by rw [atExit]; exact id) same

/-! ## The offer on its way (R50, R54, R55) -/

@[simp] theorem answerCall_sn (w : Word16) (s : State) :
    (answerCall w s).sn = { s.sn with counts := (answerCall w s).sn.counts } := by
  unfold answerCall; split <;> simp

theorem enterReleasing_exitAgrees {s : State} (outlet : s.ex.outlet.isSome = true) (serial : s.ex.serial.isSome = true)
    (atExit : headAtExit s = true) (unhalted : halted s = false) (service : inService s = true) :
    ExitAgrees (enterReleasing s) where
  outlet := outlet
  serial := serial
  travel := rfl
  release := rfl
  gate := by simp [enterReleasing, role]
  inUse := fun _ => configured_of_inService service
  offered := fun releasing => nomatch releasing
  moving := fun _ => ⟨atExit, unhalted, service⟩

theorem travelDone_exitAgrees {s : State} (h : ExitAgrees s) (switching : s.ex.exit = .switching) :
    ExitAgrees (travelDone s) := by
  obtain ⟨atExit, unhalted, service⟩ := h.moving (.inl switching)
  exact enterReleasing_exitAgrees (h.outlet.trans (by rw [switching]; rfl)) (h.serial.trans (by rw [switching]; rfl))
    atExit unhalted service

theorem enterSwitching_exitAgrees (o : Outlet) {s : State} (h : ExitAgrees s) (offering : s.ex.exit = .offering)
    (atExit : headAtExit s = true) (unhalted : halted s = false) (service : inService s = true) :
    ExitAgrees (enterSwitching o s) := by
  have switching (travel : Option Timer) (hs : travel.isSome = true) (position : BitVec 2) :
      ExitAgrees { s with ex := { s.ex with exit := .switching, position := position, settled := false,
                                            travel := travel } } :=
    { outlet := h.outlet.trans (by rw [offering]; rfl)
      serial := h.serial.trans (by rw [offering]; rfl)
      travel := hs
      release := h.release.trans (by rw [offering]; rfl)
      gate := h.gate.trans (by rw [offering]; rfl)
      inUse := fun _ => configured_of_inService service
      offered := fun switching => nomatch switching
      moving := fun _ => ⟨atExit, unhalted, service⟩ }
  simp only [enterSwitching]; split
  · exact travelDone_exitAgrees (switching _ rfl _) rfl
  · exact switching _ rfl _

/-- The acknowledged offer goes on its way only at a head at the exit, unhalted and in service (R50, R53, R54). -/
theorem moveExit_exitAgrees {s : State} (h : ExitAgrees s) (offering : s.ex.exit = .offering) :
    ExitAgrees (ExitProofs.moveExit s) := by
  unfold ExitProofs.moveExit; split
  · exact recallOffer_exitAgrees ..
  · rename_i goes
    simp only [Bool.or_eq_true, not_or, Bool.not_eq_true, beq_eq_false_iff_ne] at goes
    obtain ⟨⟨unhalted, healthy⟩, stands⟩ := goes
    have atExit := h.offered offering stands
    have inUse := h.inUse (by rw [offering]; decide)
    have service : inService s = true := by
      unfold inService; unfold configured at inUse; cases hs : s.sn.service <;> simp_all
    split
    · exact h
    split
    · exact enterSwitching_exitAgrees _ h offering atExit unhalted service
    · exact enterReleasing_exitAgrees (h.outlet.trans (by rw [offering]; rfl)) (h.serial.trans (by rw [offering]; rfl))
        atExit unhalted service

theorem acceptOffer_exitAgrees (w : Word16) {s : State} (h : ExitAgrees s) (offering : s.ex.exit = .offering) :
    ExitAgrees (acceptOffer w s) := by
  rw [ExitProofs.acceptOffer_eq]; split
  · have service : (answerCall w s).sn.service = s.sn.service := by rw [answerCall_sn]
    have unhalted : halted (answerCall w s) = halted s := by rw [halted, answerCall_sn]; rfl
    exact moveExit_exitAgrees (h.congr (by simp) (by simp) service (by simp [headAtExit]) unhalted) (by simpa using offering)
  · exact moveExit_exitAgrees h offering

/-! ## The end of an offer (R39, R53 to R55) -/

/-- With no head at the exit, EX is CLOSED or in an OFFERING that is withdrawn. -/
theorem ExitAgrees.headGone {s t : State} (h : ExitAgrees s) (hx : t.ex = { s.ex with withdrawn := t.ex.withdrawn })
    (hr : t.ss.running = s.ss.running) (hc : configured t = configured s)
    (gone : s.ex.exit = .closed ∨ s.ex.exit = .offering ∧ t.ex.withdrawn = true) : ExitAgrees t := by
  have exit : t.ex.exit = s.ex.exit := by rw [hx]
  exact {
    outlet := by rw [hx]; exact h.outlet
    serial := by rw [hx]; exact h.serial
    travel := by rw [hx]; exact h.travel
    release := by rw [hx]; exact h.release
    gate := by rw [hx, role, hr]; exact h.gate
    inUse := by rw [exit, hc]; exact h.inUse
    offered := fun offering stands => by
      obtain closed | ⟨-, withdrawn⟩ := gone
      · rw [exit, closed] at offering; exact nomatch offering
      · rw [withdrawn] at stands; exact nomatch stands
    moving := fun moves => by
      obtain closed | ⟨offering, -⟩ := gone
      · rw [exit, closed] at moves; exact moves.elim nofun nofun
      · rw [exit, offering] at moves; exact moves.elim nofun nofun }

theorem removeHead_exitAgrees {s : State} (h : ExitAgrees s) (hq : s.zq.queue ≠ []) (still : s.ex.exit ≠ .releasing) :
    ExitAgrees (removeHead (setExitEye false s)) := by
  obtain ⟨-, -, -, ex, -⟩ := RackProofs.removeHead_blocks (s := setExitEye false s) hq
  have left : (setExitEye false s).ex = s.ex := rfl
  rw [left] at ex
  have running : (removeHead (setExitEye false s)).ss.running = s.ss.running := by simp [setExitEye]
  have inUse : configured (removeHead (setExitEye false s)) = configured s :=
    (RackProofs.removeHead_retains (setExitEye false s)).inUse
  cases hx : s.ex.exit with
  | releasing => exact absurd hx still
  | switching =>
    simp only [hx] at ex
    exact exitAgrees_closed (by rw [ex]) (by rw [ex]) (by rw [ex]) (by rw [ex]) (by rw [ex]) (by rw [ex])
  | closed => simp only [hx] at ex; exact h.headGone (by rw [ex]) running inUse (.inl hx)
  | offering => simp only [hx] at ex; exact h.headGone (by simp [ex, hx]) running inUse (.inr ⟨hx, by rw [ex]⟩)

/-- A clear exit eye where no rack was: nothing stood at the exit, or the node has no offer (R10, R39). -/
theorem exitClear_exitAgrees {s : State} (h : ExitAgrees s) (idle : configured s = false ∨ s.zq.queue = []) :
    ExitAgrees (setExitEye false s) := by
  refine h.headGone rfl rfl rfl ?_
  have away (inUse : configured s = true) : headAtExit s = false := by
    obtain unconfigured | empty := idle
    · rw [inUse] at unconfigured; exact nomatch unconfigured
    · simp [headAtExit, empty]
  by_cases closed : s.ex.exit = .closed
  · exact .inl closed
  have noHead := away (h.inUse closed)
  refine .inr ?_
  cases hx : s.ex.exit with
  | closed => exact absurd hx closed
  | offering =>
    refine ⟨rfl, ?_⟩
    cases hw : s.ex.withdrawn with
    | true => exact hw
    | false => exact nomatch (h.offered hx hw).symm.trans noHead
  | switching => exact nomatch (h.moving (.inl hx)).1.symm.trans noHead
  | releasing => exact nomatch (h.moving (.inr hx)).1.symm.trans noHead

/-- A rack gone from the exit ends its release, and by hand it ends the offer (R39, R53 to R55). -/
theorem rackGoneFromExit_exitAgrees {s : State} (h : ExitAgrees s) (hq : s.zq.queue ≠ []) :
    ExitAgrees (rackGoneFromExit (setExitEye false s)) := by
  by_cases releasing : s.ex.exit = .releasing
  · rw [RackProofs.rackGoneFromExit_releasing (s := setExitEye false s) hq releasing]
    exact exitAgrees_closed rfl rfl rfl rfl rfl rfl
  · have taken : rackGoneFromExit (setExitEye false s) = removeHead (setExitEye false s) := by
      simp [rackGoneFromExit, setExitEye, hq, releasing]
    rw [taken]; exact removeHead_exitAgrees h hq releasing

/-! ## Every step -/

@[simp] theorem loseExpected_sn (n : Nat) (s : State) :
    (loseExpected n s).sn = { s.sn with counts := (loseExpected n s).sn.counts } := by
  unfold loseExpected; split <;> simp

@[simp] theorem loseExpected_zq (n : Nat) (s : State) :
    (loseExpected n s).zq = { s.zq with expected := s.zq.expected.eraseIdx n } := by
  unfold loseExpected; split
  · rename_i absent
    rw [List.eraseIdx_of_length_le (List.getElem?_eq_none_iff.1 absent)]
  · simp [dropExpected]

@[simp] theorem judgeCall_sn (source : Addr) (r : RackRecord) (s : State) :
    (judgeCall source r s).sn = { s.sn with counts := (judgeCall source r s).sn.counts } := by
  unfold judgeCall; (repeat' split) <;> simp

/-- The node with the entry of an acknowledged PASS, before the station judges the call (R73). -/
def expecting (source : Addr) (body : List Byte) (u : Inlet) (s : State) : State :=
  cancelQuiet (cancelRunOn
    { s with zq := { s.zq with expected := s.zq.expected ++ [passEntry source body s] }
             ma := if role s = .merge then arbitrated u s else s.ma })

theorem joinExpected_eq (source : Addr) (body : List Byte) (u : Inlet) (s : State) :
    joinExpected source body u s = if role s = .load then judgeCall source (clampedRecord body) (expecting source body u s)
      else expecting source body u s := rfl

@[simp] theorem joinExpected_sn (source : Addr) (body : List Byte) (u : Inlet) (s : State) :
    (joinExpected source body u s).sn
      = { s.sn with quiet := none, counts := (joinExpected source body u s).sn.counts } := by
  rw [joinExpected_eq]; split
  · rw [judgeCall_sn]; rfl
  · rfl

@[simp] theorem joinExpected_zq (source : Addr) (body : List Byte) (u : Inlet) (s : State) :
    (joinExpected source body u s).zq = { s.zq with expected := s.zq.expected ++ [passEntry source body s] } := by
  rw [joinExpected_eq]; split <;> simp [expecting]

@[simp] theorem joinExpected_dc (source : Addr) (body : List Byte) (u : Inlet) (s : State) :
    (joinExpected source body u s).dc = { s.dc with runOn := none } := by
  rw [joinExpected_eq]; split <;> simp [expecting, cancelRunOn]

theorem quietEnds_exitAgrees {s : State} (h : ExitAgrees s) (recovering : s.sn.service = .recovering) :
    ExitAgrees { s with sn := { s.sn with service := .serving, quiet := none } } :=
  h.stays rfl rfl (by simp only [configured, recovering]; rfl) id fun moves => ⟨(h.moving moves).2.1, rfl⟩

theorem unlatch_exitAgrees (code : Byte) {s : State} (h : ExitAgrees s) : ExitAgrees (unlatch code s) := by
  refine h.stays (by simp) (by simp) (RackProofs.unlatch_retains ..).inUse (by simp [headAtExit]) fun moves => ?_
  obtain ⟨-, unhalted, service⟩ := h.moving moves
  have healthy : s.sn.service ≠ .faulted := fun faulted => by simp [inService, faulted] at service
  exact ⟨unhalted, by simpa [inService, unlatch, healthy] using service⟩

theorem exit_keeps (c : Instr) : Keeps c ExitAgrees ExitAgrees where
  alike := alike_exitAgrees
  within := alike_exitAgrees
  before := id
  tests := settle_exitAgrees
  otherEye inlet _ h _ := by cases inlet <;> exact h.congr rfl rfl rfl id rfl
  period h _ := h.congr (by simp) (by simp) (by simp) (by simp [headAtExit]) (by simp [halted])
  renotice k f _ h _ := h.congr (by simp [repeatNotice]) (by simp [repeatNotice]) (by simp [repeatNotice])
    (by simp [headAtExit, repeatNotice]) (by simp [halted, repeatNotice])
  restated e _ h _ := h.congr (by simp [repeatCall]) (by simp [repeatCall]) (by simp [repeatCall])
    (by simp [headAtExit, repeatCall]) (by simp [halted, repeatCall])
  written w _ _ h := h.congr (by simp [completeWrite]) (by simp [completeWrite]) (by simp [completeWrite])
    (by simp [headAtExit, completeWrite]) (by simp [halted, completeWrite])
  latch k d t v _ h _ := latchFault_exitAgrees k d t v h
  latchAmid k d t v _ h _ := latchFault_exitAgrees k d t v h
  eye inlet _ _ h := by cases inlet <;> exact h.congr rfl rfl rfl id rfl
  arrived n s h _ := by
    unfold arrive; split
    · exact h
    · exact h.congr (by simp) (by simp) (by simp [joinQueue, cancelQuiet]) (by simp [headAtExit, joinQueue]) (by simp [halted, joinQueue, cancelQuiet])
  stray d v s h _ := h.congr (by simp) (by simp) (by simp [makeStray, joinQueue, cancelQuiet]) (by simp [headAtExit, makeStray, joinQueue]) (by simp [halted, makeStray, joinQueue, cancelQuiet])
  exitBlocked h := h.congr rfl rfl rfl (by simp +contextual [headAtExit, setExitEye]) rfl
  exitClear h idle := exitClear_exitAgrees h idle
  rackGone h _ hq := rackGoneFromExit_exitAgrees h hq
  head f s h := h.congr (by simp) (by simp) (by simp) (by simp [headAtExit]) (by simp [halted])
  lost n s h := h.congr (by simp) (by simp) (by rw [loseExpected_sn]) (by simp [headAtExit]) (by rw [halted, loseExpected_sn]; rfl)
  dropped n s h := h.congr (by simp) (by simp) (by simp) (by simp [headAtExit, dropExpected]) (by simp [halted])
  passed source body u s h _ := h.congr (by simp) (by simp) (by rw [joinExpected_sn])
    (by simp [headAtExit]) (by rw [halted, joinExpected_sn]; rfl)
  accepted w _ h offering := acceptOffer_exitAgrees w h offering
  refused z s h _ := exitAgrees_closed (by simp) (by simp) (by simp) (by simp) (by simp) (by simp)
  holdOffEnds f s h := { h with }
  travelled h switching := travelDone_exitAgrees h switching
  stuck h _ := latchFault_exitAgrees _ _ _ _ (recallOffer_exitAgrees ..)
  runOnEnds h := h.congr rfl rfl rfl id rfl
  neighbours f s h := h.congr rfl rfl rfl id rfl
  fewerCalls p s h := h.congr rfl rfl rfl id rfl
  storedCall key s h _ := h.congr (by simp) (by simp) (by simp) (by simp [headAtExit]) (by simp [halted])
  opened h _ := h.congr rfl rfl rfl id rfl
  closed h _ := h.congr (by simp) (by simp) (by simp) (by simp [headAtExit]) (by simp [halted])
  terms := changeTerms_exitAgrees
  sampling h _ := h.congr rfl rfl rfl id rfl
  quietEnds _ h recovering := quietEnds_exitAgrees h recovering
  cleared code s h _ := unlatch_exitAgrees code h

theorem resetNode_exitAgrees (cause : ResetCause) (s : State) : ExitAgrees (resetNode cause s) := by
  obtain ⟨-, -, -, ex, -⟩ := ResetProofs.resetNode_frame cause s
  exact exitAgrees_closed (by rw [ex]; rfl) (by rw [ex]; rfl) (by rw [ex]; rfl) (by rw [ex]; rfl) (by rw [ex]; rfl)
    (by rw [ex]; rfl)

/-- An exit whose parts agree opens its gate only in a release that may go on, and a drive that runs only when it is wanted
moves no head that waits in a WASH zone (R3, R55, R59, R61). -/
theorem safeMovement_of_exitOk {s : State} (exit : ExitOk s) (drive : DriveOk s) : SafeMovement s := by
  have h := (exitAgrees_iff s).2 exit
  refine ⟨fun open' => ?_, fun runs => ?_⟩
  · simp only [gatePin, h.gate, Bool.and_eq_true, beq_iff_eq, bne_iff_ne] at open'
    obtain ⟨⟨releasing, gated⟩, -⟩ := open'
    obtain ⟨-, unhalted, service⟩ := h.moving (.inr releasing)
    exact ⟨gated, releasing, unhalted, service⟩
  · simp only [drivePin, Bool.and_eq_true, beq_iff_eq] at runs
    have wanted := drive.1 runs.1
    simp only [driveWanted, Bool.and_eq_true, Bool.not_eq_true', Bool.and_eq_false_iff, bne_eq_false_iff_eq,
      beq_eq_false_iff_ne] at wanted
    obtain ⟨⟨⟨service, unhalted⟩, -⟩, held⟩ := wanted
    refine ⟨unhalted, service, fun wash head => ?_⟩
    rcases held with (other | away) | releasing
    · exact absurd wash other
    · simp [head] at away
    · exact releasing

/-- Settles O54: each event of the node keeps the exit's parts in agreement, and so does a reset, which closes the exit. -/
theorem stepKeepsTheExitAndMovementIsSafe : Obligations.StepKeepsTheExitAndMovementIsSafe :=
  ⟨fun _ t h ht => (exitAgrees_iff t).1
      (step_keeps exit_keeps (fun cause s _ => resetNode_exitAgrees cause s) ((exitAgrees_iff _).2 h) ht),
    fun _ => safeMovement_of_exitOk⟩

end Sys2Proof.StepProofs
end

section
/-! The arrival windows and the stop set in every step. -/

namespace Sys2Proof.StepProofs
open Sys2Proof.Machine

/-! # Arrival windows and the stop set (R18, R19, R28, R151) -/

structure WindowsAndStops (s : State) : Prop where
  windows : WindowsOk s
  stops : StopSetOk s

/-- Entries that stay as they are keep their windows while the halt condition stays. -/
theorem WindowsAndStops.sub {s t : State} (h : WindowsAndStops s) (he : ∀ e ∈ t.zq.expected, e ∈ s.zq.expected)
    (hh : halted t = halted s) (hs : t.sn.stopSet = s.sn.stopSet) : WindowsAndStops t where
  windows := fun e mem => by rw [hh]; exact h.windows e (he e mem)
  stops := by rw [StopSetOk, hs]; exact h.stops

theorem WindowsAndStops.congr {s t : State} (h : WindowsAndStops s) (he : t.zq.expected = s.zq.expected)
    (hh : halted t = halted s) (hs : t.sn.stopSet = s.sn.stopSet) : WindowsAndStops t :=
  h.sub (by rw [he]; exact fun _ => id) hh hs

theorem alike_windowsAndStops {s t : State} (a : Alike s t) (h : WindowsAndStops s) : WindowsAndStops t :=
  h.congr a.expected a.halted a.stopSet

theorem latchFault_stopSet (k : FaultKind) (d : Byte) (t v : Word16) (s : State) :
    (latchFault k d t v s).sn.stopSet = s.sn.stopSet :=
  latchFault_keeps (I := fun u => u.sn.stopSet = s.sn.stopSet) rfl (fun u hu => by simpa using hu)
    (fun _ _ _ => by rw [WashProofs.enterFaulted_sn]; rfl) fun _ _ => rfl

theorem latchFault_windowsAndStops (k : FaultKind) (d : Byte) (t v : Word16) {s : State} (h : WindowsAndStops s) :
    WindowsAndStops (latchFault k d t v s) := by
  have unbinds := WashProofs.latchFault_onlyUnbinds k d t v s
  exact h.congr unbinds.expected unbinds.halt (latchFault_stopSet ..)

/-! ## What the outcomes of an offer and the exit eye leave -/

theorem acceptOffer_rest (w : Word16) (s : State) :
    (acceptOffer w s).zq.expected = s.zq.expected
      ∧ (acceptOffer w s).sn = { s.sn with counts := (acceptOffer w s).sn.counts }
      ∧ (acceptOffer w s).zq.queue.isEmpty = s.zq.queue.isEmpty ∧ (acceptOffer w s).zq.eyeX = s.zq.eyeX := by
  have moved (u : State) : (ExitProofs.moveExit u).zq.expected = u.zq.expected ∧ (ExitProofs.moveExit u).sn = u.sn
      ∧ (ExitProofs.moveExit u).zq.queue.isEmpty = u.zq.queue.isEmpty
      ∧ (ExitProofs.moveExit u).zq.eyeX = u.zq.eyeX := by
    unfold ExitProofs.moveExit; split
    · simp
    split
    · simp
    split <;> simp
  obtain ⟨expected, sn, queue, eyeX⟩ := moved (if role s = .spur then answerCall w s else s)
  rw [ExitProofs.acceptOffer_eq, expected, sn, queue, eyeX]
  split
  · exact ⟨by simp, answerCall_sn w s, by simp, by simp⟩
  · exact ⟨rfl, rfl, rfl, rfl⟩

theorem rackGoneFromExit_rest (s : State) :
    (rackGoneFromExit s).zq.expected = s.zq.expected
      ∧ (rackGoneFromExit s).sn = { s.sn with counts := (rackGoneFromExit s).sn.counts } := by
  have left := (RackProofs.leaveHead_zq s).2
  unfold rackGoneFromExit; split
  · exact ⟨rfl, rfl⟩
  split
  · exact ⟨by simp [endRelease, left], by simp [endRelease]⟩
  · unfold removeHead; split
    · exact ⟨rfl, rfl⟩
    · simp only []; split <;> simp [left]

/-! ## Every step -/

/-- A change of the halt terms stops every window at a halt that begins, and restarts it at one that ends (R18, R19). -/
theorem changeTerms_windowsAndStops {change : State → State} {s : State} (h : WindowsAndStops s)
    (a : AlikeButTerms s (change s)) : WindowsAndStops (changeTerms change s) := by
  have stops := a.stopSetOk h.stops
  obtain ⟨halts, -, begins⟩ | ⟨runs, -, ends⟩ | ⟨same, stays⟩ := changeTerms_cases change s
  · have halted' : halted (haltBegins (change s)) = true := by rw [← halts]; simp [halted, haltBegins, cancelQuiet]
    rw [begins]
    refine ⟨fun e mem => ?_, by simpa [StopSetOk, haltBegins, cancelQuiet] using stops⟩
    obtain ⟨x, -, rfl⟩ := List.mem_map.1 mem
    rw [halted']; rfl
  · have halted' : halted (haltEnds (change s)) = false := by rw [← runs]; simp [halted]
    rw [ends]
    refine ⟨fun e mem => ?_, by simpa [StopSetOk] using stops⟩
    obtain ⟨x, -, rfl⟩ := List.mem_map.1 mem
    rw [halted']; rfl
  · rw [stays]
    exact ⟨fun e mem => by rw [same]; exact h.windows e (a.expected ▸ mem), stops⟩

/-- A PASS is acknowledged by a node that is not halted, with its window in full (R71, R73). -/
theorem joinExpected_windowsAndStops {source : Addr} {body : List Byte} {u : Inlet} {s : State} (h : WindowsAndStops s)
    (taken : passDecision source s = some u) : WindowsAndStops (joinExpected source body u s) := by
  have unhalted : halted s = false := by
    unfold passDecision at taken
    split at taken
    · exact nomatch taken
    · split at taken
      · exact nomatch taken
      · split at taken
        · exact nomatch taken
        · simp_all
  have same : halted (joinExpected source body u s) = halted s := by rw [halted, joinExpected_sn]; rfl
  refine ⟨fun e mem => ?_, by rw [StopSetOk, joinExpected_sn]; exact h.stops⟩
  rw [joinExpected_zq] at mem
  rw [same]
  rcases List.mem_append.1 mem with old | new
  · exact h.windows e old
  · rw [List.mem_singleton.1 new, unhalted]; rfl

theorem loseExpected_windowsAndStops (n : Nat) {s : State} (h : WindowsAndStops s) :
    WindowsAndStops (loseExpected n s) :=
  h.sub (by rw [loseExpected_zq]; exact fun e => List.mem_of_mem_eraseIdx) (by rw [halted, loseExpected_sn]; rfl)
    (by rw [loseExpected_sn])

theorem windows_keep (c : Instr) : Keeps c WindowsAndStops WindowsAndStops where
  alike := alike_windowsAndStops
  within := alike_windowsAndStops
  before := id
  tests h := h.congr (by simp) (by simp) (by simp)
  otherEye inlet _ h _ := by cases inlet <;> exact h.congr rfl rfl rfl
  period h _ := h.congr (by simp) (by simp [halted]) (by simp)
  renotice k f _ h _ := h.congr (by simp [repeatNotice]) (by simp [halted, repeatNotice]) (by simp [repeatNotice])
  restated e _ h _ := h.congr (by simp [repeatCall]) (by simp [halted, repeatCall]) (by simp [repeatCall])
  written w _ _ h := h.congr (by simp [completeWrite]) (by simp [halted, completeWrite]) (by simp [completeWrite])
  latch k d t v _ h _ := latchFault_windowsAndStops k d t v h
  latchAmid k d t v _ h _ := latchFault_windowsAndStops k d t v h
  eye inlet _ _ h := by cases inlet <;> exact h.congr rfl rfl rfl
  arrived n s h _ := by
    unfold arrive; split
    · exact h
    · exact h.sub (fun e => List.mem_of_mem_eraseIdx) rfl rfl
  stray d v s h _ := h.congr (by simp [makeStray, joinQueue]) (by simp [halted, makeStray, joinQueue, cancelQuiet])
    (by simp [makeStray, joinQueue, cancelQuiet])
  exitBlocked h := h.congr rfl rfl rfl
  exitClear h _ := h.congr rfl rfl rfl
  rackGone {s} h _ _ := by
    obtain ⟨expected, sn⟩ := rackGoneFromExit_rest (setExitEye false s)
    exact h.congr expected (by rw [halted, sn]; rfl) (by rw [sn]; rfl)
  head f s h := h.congr (by simp) (by simp [halted]) (by simp)
  lost n _ h := loseExpected_windowsAndStops n h
  dropped n s h := h.sub (by simpa [dropExpected] using fun e => List.mem_of_mem_eraseIdx) (by simp [halted]) (by simp)
  passed _ _ _ _ h taken := joinExpected_windowsAndStops h taken
  accepted w s h _ := by
    obtain ⟨expected, sn, -⟩ := acceptOffer_rest w s
    exact h.congr expected (by rw [halted, sn]; rfl) (by rw [sn])
  refused z s h _ := h.congr (by simp) (by simp [halted]) (by simp)
  holdOffEnds f s h := h.congr rfl rfl rfl
  travelled h _ := h.congr rfl rfl rfl
  stuck h _ := latchFault_windowsAndStops _ _ _ _ (h.congr (by simp) (by simp [halted]) (by simp))
  runOnEnds h := h.congr rfl rfl rfl
  neighbours f s h := h.congr rfl rfl rfl
  fewerCalls p s h := h.congr rfl rfl rfl
  storedCall key s h _ := h.congr (by simp) (by simp [halted]) (by simp)
  opened h _ := h.congr rfl rfl rfl
  closed h _ := h.congr (by simp) (by simp [halted]) (by simp)
  terms := changeTerms_windowsAndStops
  sampling h _ := h.congr rfl rfl rfl
  quietEnds _ h _ := h.congr rfl rfl rfl
  cleared code s h _ := h.congr (by simp) (by simp [halted, unlatch]) (by simp [unlatch])

/-- Settles O59: each event keeps the windows and the stop set, and a reset leaves no entry and an empty set. -/
theorem stepKeepsWindowsAndStopSet : Obligations.StepKeepsWindowsAndStopSet := by
  intro s t ⟨windows, stops⟩ ht
  have reset (cause : ResetCause) (u : State) : WindowsAndStops (resetNode cause u) := by
    obtain ⟨-, -, zq, -, -, -, -, -, -, sn, -⟩ := ResetProofs.resetNode_frame cause u
    exact ⟨by rw [WindowsOk, zq]; exact nofun, by rw [StopSetOk, sn]; exact ⟨.nil, nofun⟩⟩
  obtain ⟨windows', stops'⟩ := step_keeps windows_keep (fun cause u _ => reset cause u) ⟨windows, stops⟩ ht
  exact ⟨windows', stops'⟩

end Sys2Proof.StepProofs
end

section
/-! The service state against the latched faults, and the UNCONFIGURED node, in every step. -/

namespace Sys2Proof.StepProofs
open Sys2Proof.Machine

/-! # FAULTED while a fault is latched, and the UNCONFIGURED node (R10, R14, R16) -/

/-- An UNCONFIGURED node has no running configuration and nothing under way. -/
structure Bare (s : State) : Prop where
  running : s.ss.running = Items.unset
  queue : s.zq.queue = []
  expected : s.zq.expected = []
  calls : s.cl.calls = []
  entries : s.nt.entries = []
  statePeriod : s.nt.period = none
  samplePeriod : s.su.period = none
  quiet : s.sn.quiet = none
  faults : s.sn.faults = Faults.clear
  exit : s.ex.exit = .closed
  gate : s.ex.gate = false
  drive : s.dc.drive = .off
  runOn : s.dc.runOn = none

/-- Every latched fault has its notice repeat running (R153). -/
def Renoticed (fs : Faults) : Prop := ∀ k, ((latched? fs k).all fun f => f.renotice.isSome) = true

structure Accounted (s : State) : Prop where
  faulted : serviceFault s.sn.faults = (s.sn.service == .faulted)
  renoticed : Renoticed s.sn.faults
  bare : configured s = false → Bare s
  replies : RepliesOnly s

theorem configured_iff (s : State) : configured s = false ↔ s.sn.service = .unconfigured := by simp [configured]

theorem accounted_of_ok {s : State} (faults : FaultsOk s) (bare : UnconfiguredOk s) (list : TransmitOk s.li) :
    Accounted s where
  faulted := faults.1
  renoticed k := faults.2 k (by cases k <;> simp)
  bare hc := by
    obtain ⟨running, queue, expected, calls, entries, statePeriod, samplePeriod, quiet, clear, exit, gate, drive, runOn, -⟩ :=
      bare ((configured_iff s).1 hc)
    exact ⟨running, queue, expected, calls, entries, statePeriod, samplePeriod, quiet, clear, exit, gate, drive, runOn⟩
  replies hc e he := by
    obtain ⟨-, -, -, -, -, -, -, -, -, -, -, -, -, replies⟩ := bare ((configured_iff s).1 hc)
    obtain ⟨-, -, -, -, entries⟩ := list
    have kind := replies e he
    have replaced := (entries e he).2
    refine ⟨kind, ?_⟩
    cases hr : e.replacement with
    | none => rfl
    | some f => simp [hr, kind] at replaced

theorem Accounted.ok {s : State} (h : Accounted s) : FaultsOk s ∧ UnconfiguredOk s := by
  refine ⟨⟨h.faulted, fun k _ => h.renoticed k⟩, fun hs => ?_⟩
  have hc := (configured_iff s).2 hs
  have b := h.bare hc
  exact ⟨b.running, b.queue, b.expected, b.calls, b.entries, b.statePeriod, b.samplePeriod, b.quiet, b.faults, b.exit,
    b.gate, b.drive, b.runOn, fun e he => (h.replies hc e he).1⟩

/-- A node that shows what no UNCONFIGURED node has is in use. -/
theorem Accounted.used {s : State} (h : Accounted s) (shows' : Bare s → False) : configured s = true := by
  cases hc : configured s with
  | true => rfl
  | false => exact (shows' (h.bare hc)).elim

theorem accounted_inUse {s : State} (hc : configured s = true)
    (faulted : serviceFault s.sn.faults = (s.sn.service == .faulted)) (renoticed : Renoticed s.sn.faults) : Accounted s where
  faulted := faulted
  renoticed := renoticed
  bare hn := nomatch hc.symm.trans hn
  replies hn := nomatch hc.symm.trans hn

/-- An event that leaves the faults and the service state of a node in use. -/
theorem Accounted.inUse {s t : State} (h : Accounted s) (hc : configured s = true) (hs : t.sn.service = s.sn.service)
    (hf : t.sn.faults = s.sn.faults) : Accounted t := by
  have use : configured t = true := (configured_of_sn hs).trans hc
  exact accounted_inUse use (by rw [hf, hs]; exact h.faulted) (by rw [hf]; exact h.renoticed)

/-- An event that leaves the faults, the service state and the transmit list, and a node bare that was. -/
theorem Accounted.keep {s t : State} (h : Accounted s) (hs : t.sn.service = s.sn.service)
    (hf : t.sn.faults = s.sn.faults) (hb : Bare s → Bare t) (hl : t.li = s.li) : Accounted t where
  faulted := by rw [hf, hs]; exact h.faulted
  renoticed := by rw [hf]; exact h.renoticed
  bare hc := hb (h.bare ((configured_of_sn hs).symm.trans hc))
  replies hc := by rw [hl]; exact h.replies ((configured_of_sn hs).symm.trans hc)

theorem Bare.role {s : State} (h : Bare s) : role s = .feed := by
  rw [Machine.role, h.running]; simp [runningRole, itemNat]

theorem alike_bare {s t : State} (a : AlikeButTerms s t) (h : Bare s) : Bare t where
  running := a.running.trans h.running
  queue := by simpa [h.queue] using a.queue_isEmpty
  expected := a.expected.trans h.expected
  calls := a.calls.trans h.calls
  entries := by rw [a.nt, h.entries]
  statePeriod := by rw [a.nt, h.statePeriod]
  samplePeriod := by simpa [h.samplePeriod] using a.period
  quiet := a.quiet.trans h.quiet
  faults := a.faults.trans h.faults
  exit := by rw [a.ex, h.exit]
  gate := by rw [a.ex, h.gate]
  drive := a.drive.trans h.drive
  runOn := a.runOn.trans h.runOn

theorem alike_accounted {s t : State} (a : AlikeButTerms s t) (h : Accounted s) : Accounted t where
  faulted := by rw [a.faults, a.service]; exact h.faulted
  renoticed := by rw [a.faults]; exact h.renoticed
  bare hc := alike_bare a (h.bare (a.configured.symm.trans hc))
  replies := a.replies h.replies

/-! ## Faults latched and unlatched -/

theorem serviceFault_setLatched {k : FaultKind} (hk : k ≠ .probe) (fs : Faults) (f : LatchedFault) :
    serviceFault (setLatched fs k (some f)) = true := by
  cases k <;> simp_all [serviceFault, setLatched]

theorem serviceFault_probe (fs : Faults) (v : Option LatchedFault) :
    serviceFault (setLatched fs .probe v) = serviceFault fs := rfl

theorem renoticed_setLatched {fs : Faults} (h : Renoticed fs) (k : FaultKind) {v : Option LatchedFault}
    (hv : (v.all fun f => f.renotice.isSome) = true) : Renoticed (setLatched fs k v) := by
  intro j
  by_cases hj : k = j
  · subst hj; simpa using hv
  · rw [latched_setLatched_ne fs v hj]; exact h j

/-- A fault latched at a node in use: FAULTED follows, but for PROBE (R14). -/
theorem latchFault_accounted (k : FaultKind) (d : Byte) (t v : Word16) {s : State} (h : Accounted s)
    (hc : configured s = true) : Accounted (latchFault k d t v s) := by
  have latched : Renoticed (setLatched s.sn.faults k (some (detected d t v s))) := renoticed_setLatched h.renoticed k rfl
  refine latchFault_keeps h (fun u hu => alike_accounted (sendNotice_alike ..).toAlikeButTerms hu) (fun _ hk _ => ?_)
    fun _ hk => ?_
  · have sn := WashProofs.enterFaulted_sn (withFault k (detected d t v s) s)
    have inUse : configured (enterFaulted (withFault k (detected d t v s) s)) = true := by simp [configured, sn]
    exact accounted_inUse inUse (by rw [sn]; exact serviceFault_setLatched hk ..) (by rw [sn]; exact latched)
  · refine accounted_inUse hc ?_ latched
    by_cases probe : k = .probe
    · subst probe; exact h.faulted
    · have out := hk.resolve_left probe
      have faulted : s.sn.service = .faulted := by
        unfold inService at out; unfold configured at hc; cases hs : s.sn.service <;> simp_all
      exact (serviceFault_setLatched probe ..).trans (by simp [withFault, faulted])

theorem clearedFaults_cases (code : Byte) (fs : Faults) :
    clearedFaults code fs = Faults.clear ∨ clearedFaults code fs = fs
      ∨ ∃ k, clearedFaults code fs = setLatched fs k none := by
  unfold clearedFaults; split
  · exact .inl rfl
  · cases faultOfCode code with
    | none => exact .inr (.inl rfl)
    | some k => exact .inr (.inr ⟨k, rfl⟩)

theorem renoticed_clear : Renoticed Faults.clear := by intro k; cases k <;> rfl

theorem serviceFault_unlatched {fs : Faults} (h : serviceFault fs = false) (k : FaultKind) :
    serviceFault (setLatched fs k none) = false := by
  cases k <;> simp_all [serviceFault, setLatched]

theorem clearedFaults_healthy {fs : Faults} (h : serviceFault fs = false) (code : Byte) :
    serviceFault (clearedFaults code fs) = false := by
  obtain clear | same | ⟨k, one⟩ := clearedFaults_cases code fs
  · rw [clear]; rfl
  · rw [same]; exact h
  · rw [one]; exact serviceFault_unlatched h k

theorem clearedFaults_renoticed {fs : Faults} (h : Renoticed fs) (code : Byte) : Renoticed (clearedFaults code fs) := by
  obtain clear | same | ⟨k, one⟩ := clearedFaults_cases code fs
  · rw [clear]; exact renoticed_clear
  · rw [same]; exact h
  · rw [one]; exact renoticed_setLatched h k rfl

/-- CLEAR leaves a node FAULTED exactly when one of the four kinds is left (R16). -/
theorem unlatch_accounted (code : Byte) {s : State} (h : Accounted s) (hc : configured s = true) :
    Accounted (unlatch code s) := by
  have inUse : configured (unlatch code s) = true := ((RackProofs.unlatch_retains code s).inUse).trans hc
  refine accounted_inUse inUse ?_ (clearedFaults_renoticed h.renoticed code)
  by_cases faulted : s.sn.service = .faulted
  · cases left : serviceFault (clearedFaults code s.sn.faults) <;> simp [unlatch, faulted, left]
  · have healthy := clearedFaults_healthy (h.faulted.trans (by simpa using faulted)) code
    simp [unlatch, faulted, healthy]

/-- A fault latched anew that was latched. -/
theorem serviceFault_relatched {fs : Faults} {k : FaultKind} {f : LatchedFault} (latched : latched? fs k = some f)
    (g : LatchedFault) : serviceFault (setLatched fs k (some g)) = serviceFault fs := by
  cases k <;> simp_all [serviceFault, setLatched, latched?]

theorem repeatNotice_accounted {k : FaultKind} {f : LatchedFault} {s : State} (h : Accounted s)
    (latched : latched? s.sn.faults k = some f) : Accounted (repeatNotice k f s) := by
  have hc := h.used fun b => by rw [b.faults] at latched; cases k <;> exact nomatch latched
  exact alike_accounted (sendNotice_alike ..).toAlikeButTerms
    (accounted_inUse hc ((serviceFault_relatched latched _).trans h.faulted) (renoticed_setLatched h.renoticed k rfl))

/-! ## A change of the halt terms at a bare node -/

theorem haltBegins_bare {s : State} (h : Bare s) : Bare (haltBegins s) where
  running := by simp [h.running]
  queue := by
    have : (haltBegins s).zq.queue.isEmpty = s.zq.queue.isEmpty := by simp [haltBegins, setWindows]
    simpa [h.queue] using this
  expected := by simp [haltBegins, setWindows, h.expected]
  calls := by simp [h.calls]
  entries := by simp [h.entries]
  statePeriod := by simp [h.statePeriod]
  samplePeriod := by simp [h.samplePeriod]
  quiet := by simp [haltBegins, cancelQuiet]
  faults := by simp [haltBegins, cancelQuiet, h.faults]
  exit := by simp [haltBegins, stoppedExit, h.exit]
  gate := by simp [haltBegins, stoppedExit, h.exit, h.gate]
  drive := by simp [haltBegins, cancelRunOn, setDrive_off]
  runOn := by simp [haltBegins, cancelRunOn]

theorem haltEnds_bare {s : State} (h : Bare s) : Bare (haltEnds s) :=
  { h with expected := by simp [haltEnds, setWindows, h.expected] }

theorem changeTerms_accounted {change : State → State} {s : State} (h : Accounted s) (a : AlikeButTerms s (change s)) :
    Accounted (changeTerms change s) := by
  have changed := alike_accounted a h
  obtain ⟨-, -, begins⟩ | ⟨-, -, ends⟩ | ⟨-, stays⟩ := changeTerms_cases change s
  · rw [begins]
    have sn : (haltBegins (change s)).sn = { (change s).sn with quiet := none } := by simp [haltBegins, cancelQuiet]
    cases hc : configured (change s) with
    | true => exact changed.inUse hc (by rw [sn]) (by rw [sn])
    | false =>
      have bare := changed.bare hc
      exact changed.keep (by rw [sn]) (by rw [sn]) haltBegins_bare (by simp [haltBegins, stopExit, bare.exit])
  · rw [ends]; exact changed.keep (by simp) (by simp) haltEnds_bare (by simp)
  · rw [stays]; exact changed

theorem dropExpected_bare {n : Nat} {s : State} (h : Bare s) : Bare (dropExpected n s) := by
  have same : dropExpected n s = s := by
    simp [dropExpected, startRunOnIfEmpty, itemNat, h.running, h.expected]
    simp [← h.expected]
  rwa [same]

/-! ## Every step -/

theorem faults_keep (c : Instr) : Keeps c Accounted Accounted where
  alike a h := alike_accounted a.toAlikeButTerms h
  within a h := alike_accounted a.toAlikeButTerms h
  before := id
  tests {s} h := by
    cases hc : configured s with
    | true => exact h.inUse hc (by simp) (by simp)
    | false => rw [settle_unconfigured hc]; exact h
  otherEye inlet _ h _ := by cases inlet <;> exact h.keep rfl rfl (fun b => { b with }) rfl
  period h runs := h.inUse (h.used fun b => by simp [b.statePeriod] at runs) (by simp) (by simp)
  renotice k f _ h latched := repeatNotice_accounted h latched
  restated e _ h load := h.inUse (h.used fun b => by simp [b.role] at load) (by simp [repeatCall]) (by simp [repeatCall])
  written w s _ h := by
    refine alike_accounted (sendFrame_alike ..).toAlikeButTerms ?_
    exact h.keep rfl rfl (fun b => { b with }) rfl
  latch k d t v s h shows' := latchFault_accounted k d t v h
    (shows'.elim id fun runs => h.used fun b => by simp [b.samplePeriod] at runs)
  latchAmid k d t v s h hc := latchFault_accounted k d t v h hc
  eye inlet _ _ h := by cases inlet <;> exact h.keep rfl rfl (fun b => { b with }) rfl
  arrived n s h hc := by
    unfold arrive; split
    · exact h
    · exact h.inUse hc rfl rfl
  stray d v s h hc := h.inUse hc (by simp [makeStray, joinQueue, cancelQuiet]) (by simp [makeStray, joinQueue, cancelQuiet])
  exitBlocked h := h.keep rfl rfl (fun b => { b with }) rfl
  exitClear h _ := h.keep rfl rfl (fun b => { b with }) rfl
  rackGone {s} h hc _ := by
    obtain ⟨-, sn⟩ := rackGoneFromExit_rest (setExitEye false s)
    exact h.inUse hc (by rw [sn]; rfl) (by rw [sn]; rfl)
  head f s h := h.keep (by simp) (by simp) (fun b => by rwa [changeHead, b.queue]) (by simp)
  lost n s h := by
    cases hc : configured s with
    | true => exact h.inUse hc (by rw [loseExpected_sn]) (by rw [loseExpected_sn])
    | false => rwa [loseExpected, (h.bare hc).expected]
  dropped n s h := h.keep (by simp) (by simp) dropExpected_bare (by simp)
  passed source body u s h taken := h.inUse (h.used fun b => by
    simp [passDecision, upstreamOf, inletZone, itemZone, b.running] at taken) (by rw [joinExpected_sn]) (by rw [joinExpected_sn])
  accepted w s h offering := by
    obtain ⟨-, sn, -⟩ := acceptOffer_rest w s
    exact h.inUse (h.used fun b => by simp [b.exit] at offering) (by rw [sn]) (by rw [sn])
  refused z s h offering := h.inUse (h.used fun b => by simp [b.exit] at offering) (by simp) (by simp)
  holdOffEnds f s h := h.keep rfl rfl (fun b => { b with entries := by simp [b.entries] }) rfl
  travelled h switching := h.inUse (h.used fun b => by simp [b.exit] at switching) (by simp) (by simp)
  stuck {s} h releasing := by
    have hc := h.used fun b => by simp [b.exit] at releasing
    have recalled : Accounted (recallOffer false s) := h.inUse hc (by simp) (by simp)
    exact latchFault_accounted _ _ _ _ recalled (by simpa [configured] using hc)
  runOnEnds h := h.keep rfl rfl (fun b => { b with runOn := rfl }) rfl
  neighbours f s h := h.keep rfl rfl (fun b => { b with entries := by simp [b.entries] }) rfl
  fewerCalls p s h := h.keep rfl rfl (fun b => { b with calls := by simp [b.calls] }) rfl
  storedCall key s h spur := h.inUse (h.used fun b => by simp [b.role] at spur) (by simp) (by simp)
  opened h load := h.inUse (h.used fun b => by simp [b.role] at load) rfl rfl
  closed h load := h.inUse (h.used fun b => by simp [b.role] at load) (by simp) (by simp)
  terms := changeTerms_accounted
  sampling h hc := h.inUse hc rfl rfl
  quietEnds {s} _ h recovering := by
    refine accounted_inUse rfl ?_ h.renoticed
    exact h.faulted.trans (by simp [recovering])
  cleared code s h hc := unlatch_accounted code h hc

/-- A reset of a node whose store is not valid leaves it bare (R10, R161). -/
theorem resetNode_bare (cause : ResetCause) {s : State} {r : SetupFault}
    (invalid : validityCheck (loadedItems s.ss.store) = some r) : Bare (resetNode cause s) := by
  rw [ResetProofs.resetNode_invalid cause invalid]
  have running := ResetProofs.runningItems_invalid invalid
  have entries : (NeighbourTable.reset (neighbourZones (runningItems s.ss.store))).entries = [] := by
    rw [running, ResetProofs.neighbourZones_unset]; rfl
  exact ⟨running, rfl, rfl, rfl, entries, rfl, rfl, rfl, rfl, rfl, rfl, rfl, rfl⟩

theorem resetNode_accounted (cause : ResetCause) (s : State) : Accounted (resetNode cause s) := by
  have faults := ResetProofs.resetNode_faults cause s
  have faulted : serviceFault (resetNode cause s).sn.faults = ((resetNode cause s).sn.service == .faulted) := by
    rw [faults, ResetProofs.resetNode_service]; split <;> rfl
  have renoticed : Renoticed (resetNode cause s).sn.faults := by rw [faults]; exact renoticed_clear
  cases valid : validityCheck (loadedItems s.ss.store) with
  | none =>
    exact accounted_inUse (by simp [configured, ResetProofs.resetNode_service, valid]) faulted renoticed
  | some r =>
    refine ⟨faulted, renoticed, fun _ => resetNode_bare cause valid, fun _ => ?_⟩
    rw [ResetProofs.resetNode_invalid cause valid]; exact nofun

/-- Settles O56: each event accounts for its faults and leaves a bare node bare, a reset starts with none, and O53 keeps
the transmit list. -/
theorem stepKeepsFaultsAndUnconfiguredNodes : Obligations.StepKeepsFaultsAndUnconfiguredNodes := by
  intro s t ⟨faults, bare, list⟩ ht
  have kept := step_keeps faults_keep (fun cause u _ => resetNode_accounted cause u) (accounted_of_ok faults bare list) ht
  exact ⟨kept.ok.1, kept.ok.2, LineProofs.stepKeepsTheTransmitList s t list ht⟩

end Sys2Proof.StepProofs
end

section
/-! What moves the service state and the setup values, over every command. -/

namespace Sys2Proof.StepProofs
open Sys2Proof.Machine

/-! # What moves the service state and the setup values (R9, R12 to R16, R159, R161) -/

/-- What the events of a command `c`, the end of the quiet time excepted, make of the service state and the setup values
of `before`. -/
structure Moved (c : Instr) (before s : State) : Prop where
  running : s.ss.running = before.ss.running
  store : c ≠ .writeCycleCompletion → s.ss.store = before.ss.store
  service : s.sn.service = before.sn.service
    ∨ (inService before = true ∧ s.sn.service = .faulted ∧ serviceFault s.sn.faults = true)
    ∨ (before.sn.service ≠ .unconfigured ∧ s.sn.service = .recovering ∧ serviceFault s.sn.faults = false)

theorem Moved.refl (c : Instr) (s : State) : Moved c s s := ⟨rfl, fun _ => rfl, .inl rfl⟩

theorem Moved.keep {c : Instr} {before s t : State} (h : Moved c before s) (hr : t.ss.running = s.ss.running)
    (hst : t.ss.store = s.ss.store) (hs : t.sn.service = s.sn.service)
    (hf : serviceFault t.sn.faults = serviceFault s.sn.faults) : Moved c before t where
  running := hr.trans h.running
  store hc := hst.trans (h.store hc)
  service := by rw [hs, hf]; exact h.service

theorem alike_moved {c : Instr} {before s t : State} (a : AlikeButTerms s t) (h : Moved c before s) :
    Moved c before t :=
  h.keep a.running a.store a.service (by rw [a.faults])

theorem changeTerms_moved {c : Instr} {before : State} {change : State → State} {s : State} (h : Moved c before s)
    (a : AlikeButTerms s (change s)) : Moved c before (changeTerms change s) := by
  have changed := alike_moved a h
  obtain ⟨-, -, begins⟩ | ⟨-, -, ends⟩ | ⟨-, stays⟩ := changeTerms_cases change s
  · rw [begins]; exact changed.keep (by simp) (by simp) (by simp [haltBegins, cancelQuiet]) (by simp [haltBegins, cancelQuiet])
  · rw [ends]; exact changed.keep (by simp) (by simp) (by simp) (by simp)
  · rw [stays]; exact changed

/-- A detection in service makes the node FAULTED with the fault latched; one out of service, or of PROBE, leaves the service
state (R14). -/
theorem latchFault_moved (k : FaultKind) (d : Byte) (t v : Word16) {c : Instr} {before s : State}
    (h : Moved c before s) : Moved c before (latchFault k d t v s) := by
  refine latchFault_keeps h (fun u hu => alike_moved (sendNotice_alike ..).toAlikeButTerms hu) (fun _ hk service => ?_)
    fun _ hk => ?_
  · have sn := WashProofs.enterFaulted_sn (withFault k (detected d t v s) s)
    refine ⟨by simpa [withFault] using h.running, by simpa [withFault] using h.store, ?_⟩
    rw [sn]
    have latched : serviceFault (withFault k (detected d t v s) s).sn.faults = true := serviceFault_setLatched hk ..
    obtain same | ⟨was, -, -⟩ | ⟨used, -, -⟩ := h.service
    · exact .inr (.inl ⟨by rw [inService, ← same]; exact service, rfl, latched⟩)
    · exact .inr (.inl ⟨was, rfl, latched⟩)
    · cases hb : before.sn.service with
      | faulted => exact .inl rfl
      | recovering | serving => exact .inr (.inl ⟨by rw [inService, hb]; rfl, rfl, latched⟩)
      | unconfigured => exact absurd hb used
  · by_cases probe : k = .probe
    · subst probe; exact h.keep rfl rfl rfl rfl
    · have out := hk.resolve_left probe
      refine ⟨h.running, h.store, ?_⟩
      obtain same | ⟨was, faulted, -⟩ | ⟨-, recovering, -⟩ := h.service
      · exact .inl same
      · exact .inr (.inl ⟨was, faulted, serviceFault_setLatched probe ..⟩)
      · simp [inService, recovering] at out

/-- CLEAR makes a FAULTED node RECOVERING with none of the four kinds latched, and changes no other service state (R16). -/
theorem unlatch_moved (code : Byte) {c : Instr} {before s : State} (h : Moved c before s) :
    Moved c before (unlatch code s) := by
  refine ⟨by simpa using h.running, by simpa using h.store, ?_⟩
  by_cases ends : s.sn.service = .faulted ∧ serviceFault (clearedFaults code s.sn.faults) = false
  · obtain ⟨faulted, left⟩ := ends
    have used : before.sn.service ≠ .unconfigured := by
      obtain same | ⟨was, -, -⟩ | ⟨used, -, -⟩ := h.service
      · rw [← same, faulted]; decide
      · exact fun hu => by simp [inService, hu] at was
      · exact used
    exact .inr (.inr ⟨used, by simp [unlatch, faulted, left], left⟩)
  · have same : (unlatch code s).sn.service = s.sn.service := by
      simp only [unlatch]; exact if_neg (by simpa using ends)
    rw [same]
    obtain before' | ⟨was, faulted, -⟩ | ⟨used, recovering, healthy⟩ := h.service
    · exact .inl before'
    · refine .inr (.inl ⟨was, faulted, ?_⟩)
      have left : serviceFault (clearedFaults code s.sn.faults) ≠ false := fun none => ends ⟨faulted, none⟩
      simpa [unlatch] using left
    · exact .inr (.inr ⟨used, recovering, clearedFaults_healthy healthy code⟩)

theorem moved_keep {c : Instr} (hc : c ≠ .quietTimerExpiry) (before : State) :
    Keeps c (Moved c before) (Moved c before) where
  alike a h := alike_moved a.toAlikeButTerms h
  within a h := alike_moved a.toAlikeButTerms h
  before := id
  tests h := h.keep (by simp) (by simp) (by simp) (by simp)
  otherEye inlet _ h _ := by cases inlet <;> exact h.keep rfl rfl rfl rfl
  period h _ := h.keep (by simp) (by simp) (by simp) (by simp)
  renotice k f s h latched := alike_moved (sendNotice_alike ..).toAlikeButTerms
    (h.keep rfl rfl rfl (serviceFault_relatched latched _))
  restated e _ h _ := h.keep (by simp [repeatCall]) (by simp [repeatCall]) (by simp [repeatCall]) (by simp [repeatCall])
  written w s write h := ⟨by simpa [completeWrite] using h.running, fun other => absurd write other,
    by simpa [completeWrite] using h.service⟩
  latch k d t v s h _ := latchFault_moved k d t v h
  latchAmid k d t v s h _ := latchFault_moved k d t v h
  eye inlet _ _ h := by cases inlet <;> exact h.keep rfl rfl rfl rfl
  arrived n s h _ := by
    unfold arrive; split
    · exact h
    · exact h.keep rfl rfl rfl rfl
  stray d v s h _ := h.keep (by simp) (by simp) (by simp [makeStray, joinQueue, cancelQuiet])
    (by simp [makeStray, joinQueue, cancelQuiet])
  exitBlocked h := h.keep rfl rfl rfl rfl
  exitClear h _ := h.keep rfl rfl rfl rfl
  rackGone {s} h _ _ := by
    obtain ⟨-, sn⟩ := rackGoneFromExit_rest (setExitEye false s)
    have retains := RackProofs.rackGoneFromExit_retains (setExitEye false s)
    exact h.keep retains.running retains.store (by rw [sn]; rfl) (by rw [sn]; rfl)
  head f s h := h.keep (by simp) (by simp) (by simp) (by simp)
  lost n s h := h.keep (by simp) (by simp) (by rw [loseExpected_sn]) (by rw [loseExpected_sn])
  dropped n s h := h.keep (by simp) (by simp) (by simp) (by simp)
  passed _ _ _ s h _ := h.keep (by simp) (by simp) (by rw [joinExpected_sn]) (by rw [joinExpected_sn])
  accepted w s h _ := by
    obtain ⟨-, sn, -⟩ := acceptOffer_rest w s
    exact h.keep (by simp) (by simp) (by rw [sn]) (by rw [sn])
  refused z s h _ := h.keep (by simp) (by simp) (by simp) (by simp)
  holdOffEnds f s h := h.keep rfl rfl rfl rfl
  travelled h _ := h.keep rfl rfl rfl rfl
  stuck h _ := latchFault_moved _ _ _ _ (h.keep (by simp) (by simp) (by simp) (by simp))
  runOnEnds h := h.keep rfl rfl rfl rfl
  neighbours f s h := h.keep rfl rfl rfl rfl
  fewerCalls p s h := h.keep rfl rfl rfl rfl
  storedCall key s h _ := h.keep (by simp) (by simp) (by simp) (by simp)
  opened h _ := h.keep rfl rfl rfl rfl
  closed h _ := h.keep (by simp) (by simp) (by simp) (by simp)
  terms := changeTerms_moved
  sampling h _ := h.keep rfl rfl rfl rfl
  quietEnds quiet _ _ := absurd quiet hc
  cleared code s h _ := unlatch_moved code h

/-- The end of the quiet time makes a RECOVERING node SERVING, and changes neither the service state of another node nor
the setup values (R12). -/
theorem quietTimerExpiry_cases {s t : State} (ht : exec .quietTimerExpiry s = .next t) :
    t.ss = s.ss ∧ (t.sn.service = s.sn.service ∨ s.sn.service = .recovering ∧ t.sn.service = .serving) := by
  cases ht
  unfold whileRunning; split
  · exact ⟨rfl, .inl rfl⟩
  simp only []; split
  · rename_i recovering
    cases hq : s.sn.quiet with
    | none => exact ⟨rfl, .inl rfl⟩
    | some m => exact ⟨by simp [onExpiry], .inr ⟨recovering, by simp [onExpiry]⟩⟩
  · exact ⟨rfl, .inl rfl⟩

/-- A reset leaves no rack recorded and no fault, and decides the service state by the validity check of a store. -/
abbrev WasReset (store : Items) (t : State) : Prop :=
  t.zq.queue = [] ∧ t.zq.expected = [] ∧ t.dc.drive = .off ∧ t.ex.exit = .closed ∧ t.ex.gate = false
    ∧ t.sn.faults = Faults.clear ∧ t.ss.running = runningItems store
    ∧ t.sn.service = (if validityCheck (loadedItems store) = none then .recovering else .unconfigured)

theorem resetNode_wasReset (cause : ResetCause) (s : State) : WasReset s.ss.store (resetNode cause s) := by
  obtain ⟨-, -, zq, ex, dc, -, -, -, -, -, ss, -⟩ := ResetProofs.resetNode_frame cause s
  exact ⟨by rw [zq]; rfl, by rw [zq]; rfl, by rw [dc]; rfl, by rw [ex]; rfl, by rw [ex]; rfl,
    ResetProofs.resetNode_faults cause s, by rw [ss]; rfl, ResetProofs.resetNode_service cause s⟩

/-- A command other than the end of the quiet time moves the service state and the setup values by its events, or ends in a
reset of the store as it stood. -/
theorem exec_moved {c : Instr} {s t : State} (hc : c ≠ .quietTimerExpiry) (ht : exec c s = .next t) :
    Moved c s t ∨ WasReset s.ss.store t ∧ t.ss.store = s.ss.store := by
  have walk := moved_keep hc s
  by_cases write : c = .writeCycleCompletion
  · exact .inl (walk.execExpiry (.refl c s) (by rw [write]; rfl) ht)
  obtain h | ⟨cause, u, h, rfl⟩ := walk.exec (.refl c s) ht
  · exact .inl h
  · rw [← h.store write]
    obtain ⟨-, -, -, -, -, -, -, -, -, -, ss, -⟩ := ResetProofs.resetNode_frame cause u
    exact .inr ⟨resetNode_wasReset cause u, by rw [ss]; rfl⟩

/-- Settles O60: the end of the quiet time apart, the events of a command move the service state only by a detection or by
CLEAR, and the setup values only by a write cycle; and a reset that ends a command is taken from such a state. -/
theorem onlyTheseChangeServiceAndSetup : Obligations.OnlyTheseChangeServiceAndSetup := by
  intro c s t ht
  simp only []
  by_cases quiet : c = .quietTimerExpiry
  · subst quiet
    obtain ⟨ss, service⟩ := quietTimerExpiry_cases ht
    refine ⟨fun changed => .inr (.inl ⟨rfl, service.resolve_left changed⟩), fun changed => ?_, fun _ => by rw [ss]⟩
    exact absurd (by rw [ss]) changed
  obtain h | ⟨reset, store⟩ := exec_moved quiet ht
  · exact ⟨fun changed => .inr (.inr (h.service.resolve_left changed)), fun changed => absurd h.running changed, h.store⟩
  · exact ⟨fun _ => .inl reset, fun _ => reset, fun _ => store⟩

end Sys2Proof.StepProofs
end

section
/-! The node settled after every step: what the tests of an event look for is as the state asks. -/

namespace Sys2Proof.StepProofs
open Sys2Proof.Machine
open Sys2Proof.CallProofs (Thins)

/-! # What the tests of an event look for (R12, R48, R59, R67, R109, R128)

## What they read -/

/-- `t` has the values of `s` in all that the tests of an event read: of the calls their number, and at a SPUR the calls
themselves. -/
structure SameForTests (s t : State) : Prop where
  running : t.ss.running = s.ss.running
  service : t.sn.service = s.sn.service
  quiet : t.sn.quiet = s.sn.quiet
  halt : halted t = halted s
  contents : t.zq.queue.map (·.content) = s.zq.queue.map (·.content)
  expected : t.zq.expected.length = s.zq.expected.length
  eyesClear : entryEyesClear t = entryEyesClear s
  eyeX : t.zq.eyeX = s.zq.eyeX
  ex : t.ex = s.ex
  drive : t.dc.drive = s.dc.drive
  runOn : t.dc.runOn = s.dc.runOn
  entries : t.nt.entries = s.nt.entries
  sl : t.sl = s.sl
  callCount : t.cl.calls.length = s.cl.calls.length
  spurCalls : role s = .spur → t.cl.calls = s.cl.calls
  stationOpen : t.cl.stationOpen = s.cl.stationOpen

section
variable {s t : State} (h : SameForTests s t)
include h

theorem SameForTests.configured : configured t = configured s := configured_of_sn h.service

theorem SameForTests.role : role t = role s := by rw [Machine.role, Machine.role, h.running]

theorem SameForTests.inService : inService t = inService s := by rw [Machine.inService, Machine.inService, h.service]

theorem SameForTests.queueLength : t.zq.queue.length = s.zq.queue.length := by
  simpa using congrArg List.length h.contents

theorem SameForTests.queueEmpty : t.zq.queue.isEmpty = s.zq.queue.isEmpty := by
  simpa using congrArg List.isEmpty h.contents

theorem SameForTests.expectedEmpty : t.zq.expected.isEmpty = s.zq.expected.isEmpty := by
  have := h.expected
  cases ht : t.zq.expected <;> cases hs : s.zq.expected <;> simp_all

theorem SameForTests.headAtExit : headAtExit t = headAtExit s := by
  rw [Machine.headAtExit, Machine.headAtExit, h.queueEmpty, h.eyeX]

theorem SameForTests.quietCondition : quietCondition t = quietCondition s := by
  simp only [Machine.quietCondition, h.queueEmpty, h.expectedEmpty, h.eyesClear, h.eyeX, h.halt]

theorem SameForTests.driveWanted : driveWanted t = driveWanted s := by
  simp only [Machine.driveWanted, h.inService, h.halt, h.queueEmpty, h.expectedEmpty, h.runOn, h.service, h.role,
    h.headAtExit, h.ex]

theorem SameForTests.stationSum : stationSum t = stationSum s := by
  rw [Machine.stationSum, Machine.stationSum, emptyCount_of_contents h.contents, h.expected, h.callCount]

theorem SameForTests.zoneReady : zoneReady t = zoneReady s := zoneReady_congr h.entries

/-- The head's outlet is read from its content alone. -/
theorem SameForTests.headOutlet : headOutlet t = headOutlet s := by
  have contents := h.contents
  have spur (a b : RackRecord) (same : a.content = b.content) (hr : Machine.role s = .spur) :
      spurChoice t a = spurChoice s b := by
    simp only [spurChoice, same, h.running, h.spurCalls hr, h.zoneReady]
  unfold Machine.headOutlet
  rw [h.role]
  cases hs : s.zq.queue with
  | nil =>
    rw [hs, List.map_nil, List.map_eq_nil_iff] at contents
    rw [contents]
  | cons b rest =>
    rw [hs] at contents
    obtain ⟨a, rest', queue, same, -⟩ := List.map_eq_cons_iff.1 contents
    rw [queue]
    cases hr : Machine.role s <;> simp only [same, h.sl, spur a b same, hr]

theorem SameForTests.offerReady : offerReady t = offerReady s := by
  simp only [Machine.offerReady, h.headAtExit, h.inService, h.halt, h.ex, h.headOutlet, h.running, h.zoneReady]

theorem SameForTests.ownBody : ownBody t = ownBody s := by
  simp only [Machine.ownBody, stateFlags, freePlaces, capacity, waitedFor, h.service, h.halt, h.drive, h.headAtExit,
    h.running, h.queueLength, h.expected, h.inService, h.ex, h.headOutlet]

/-- The node is settled where what the tests read stands, with the STATE announced anew. -/
theorem SameForTests.announced (announced : Machine.configured s = true → t.nt.announced = some (Machine.ownBody s))
    (hs : Settled s) : Settled t := by
  obtain ⟨judgement, quiet, need, offer, drive, -⟩ := hs
  refine ⟨?_, ?_, fun hr hc => ?_, h.offerReady.trans offer, ?_, fun hc => ?_⟩
  · rw [JudgementOk, h.sl, h.configured, h.role, h.headAtExit]; exact judgement
  · rw [QuietOk, h.quiet, h.service, h.quietCondition]; exact quiet
  · obtain ⟨enough, excess, closed⟩ := need (h.role ▸ hr) (h.configured ▸ hc)
    have target : targetEmpties t = targetEmpties s := by rw [targetEmpties, targetEmpties, h.running]
    have none : s.cl.calls = [] → t.cl.calls = [] := fun hn => by
      rw [← List.length_eq_zero_iff, h.callCount, hn]; rfl
    rw [target, h.stationSum, h.stationOpen]
    exact ⟨enough, none ∘ excess, none ∘ closed⟩
  · rw [DriveOk, h.drive, h.driveWanted]; exact drive
  · rw [announced (h.configured ▸ hc), h.ownBody]

theorem SameForTests.settled (announced : t.nt.announced = s.nt.announced) (hs : Settled s) : Settled t := by
  have ⟨_, _, _, _, _, body⟩ := hs
  exact h.announced (fun hc => announced.trans (body hc)) hs

end

theorem Alike.sameForTests {s t : State} (a : Alike s t) : SameForTests s t where
  running := a.running
  service := a.service
  quiet := a.quiet
  halt := a.halted
  contents := a.contents
  expected := by rw [a.expected]
  eyesClear := by rw [entryEyesClear, entryEyesClear, a.eye1, a.eye2, a.role]
  eyeX := a.eyeX
  ex := a.ex
  drive := a.drive
  runOn := a.runOn
  entries := by rw [a.nt]
  sl := a.sl
  callCount := by rw [a.calls]
  spurCalls _ := a.calls
  stationOpen := a.stationOpen

theorem alike_settled {s t : State} (a : Alike s t) (h : Settled s) : Settled t :=
  a.sameForTests.settled (by rw [a.nt]) h

theorem SameForTests.refl (s : State) : SameForTests s s := (Alike.refl s).sameForTests

/-! ## What an event may leave for the tests -/

/-- What the tests start from: a judgement only of a head at the exit of a SORT zone, no call at a LOAD that is closed, and
in an UNCONFIGURED node, which makes no tests, what they would leave. -/
structure Ready (s : State) : Prop where
  judged : s.sl.judgement.isSome = true → configured s = true ∧ role s = .sort ∧ headAtExit s = true
  calls : role s = .load → configured s = true → s.cl.stationOpen = false → s.cl.calls = []
  quiet : configured s = false → s.sn.quiet = none
  drive : configured s = false → s.dc.drive = .off

theorem inService_of_unconfigured {s : State} (hc : configured s = false) : inService s = false := by
  rw [inService, (configured_iff s).1 hc]; rfl

theorem Settled.ready {s : State} (h : Settled s) : Ready s := by
  obtain ⟨judgement, quiet, need, -, drive, -⟩ := h
  refine ⟨fun hj => ?_, fun hr hc => (need hr hc).2.2, fun hc => ?_, fun hc => ?_⟩
  · rw [judgement] at hj; simpa [and_assoc] using hj
  · rw [QuietOk, (configured_iff s).1 hc] at quiet
    exact Option.isSome_eq_false_iff.1 quiet |> Option.isNone_iff_eq_none.1
  · have unwanted : driveWanted s = false := by simp [driveWanted, inService_of_unconfigured hc]
    cases hd : s.dc.drive with
    | off => rfl
    | run => exact nomatch (drive.1 hd).symm.trans unwanted

/-- The tests settle the node. -/
theorem Ready.settle {s : State} (h : Ready s) : Settled (settle s) := by
  cases hc : configured s with
  | true =>
    refine ⟨?_, settle_quietOk hc, fun hr hc' => ?_, settle_offerReady hc, settle_driveOk hc, fun _ => settle_announced hc⟩
    · rw [JudgementOk, settle_judgement hc]
      simp only [settle_conditions, hc, Bool.true_and]
      cases hj : s.sl.judgement.isSome with
      | false => rfl
      | true =>
        obtain ⟨-, sort, atExit⟩ := h.judged hj
        simp [sort, atExit]
    · exact settle_needOk (h.calls (by simpa using hr) hc) hr hc'
  | false =>
    rw [settle_unconfigured hc]
    have out := inService_of_unconfigured hc
    refine ⟨?_, ?_, fun _ hc' => (nomatch hc.symm.trans hc'), by simp [offerReady, out], ?_,
      fun hc' => (nomatch hc.symm.trans hc')⟩
    · cases hj : s.sl.judgement.isSome with
      | false => rw [JudgementOk, hj, hc]; rfl
      | true => exact nomatch (h.judged hj).1.symm.trans hc
    · rw [QuietOk, h.quiet hc, (configured_iff s).1 hc]; rfl
    · simp [DriveOk, h.drive hc, driveWanted, out]

/-- An event that forms no judgement and leaves the head of one at the exit, lets no call join the list of a LOAD that is
closed, and starts neither the quiet timer nor the drive of an UNCONFIGURED node. -/
theorem Ready.event {s t : State} (h : Ready s) (running : t.ss.running = s.ss.running)
    (inUse : configured t = configured s) (stationOpen : t.cl.stationOpen = s.cl.stationOpen)
    (calls : s.cl.calls = [] → t.cl.calls = [])
    (judged : t.sl.judgement.isSome = true → s.sl.judgement.isSome = true ∧ (headAtExit s = true → headAtExit t = true))
    (quiet : s.sn.quiet = none → t.sn.quiet = none) (drive : s.dc.drive = .off → t.dc.drive = .off) : Ready t := by
  have sameRole : role t = role s := by rw [role, role, running]
  refine ⟨fun hj => ?_, fun hr hc ho => ?_, fun hc => ?_, fun hc => ?_⟩
  · obtain ⟨was, stays⟩ := judged hj
    obtain ⟨hc, sort, atExit⟩ := h.judged was
    exact ⟨inUse.trans hc, sameRole.trans sort, stays atExit⟩
  · exact calls (h.calls (sameRole ▸ hr) (inUse ▸ hc) (stationOpen ▸ ho))
  · exact quiet (h.quiet (inUse ▸ hc))
  · exact drive (h.drive (inUse ▸ hc))

theorem calls_nil_of_thins {s t : State} (thin : Thins s t) (h : s.cl.calls = []) : t.cl.calls = [] := by
  simpa [CallProofs.callKeys, h] using thin.keys

/-- An event that thins the calls and leaves SL. -/
theorem Ready.thin {s t : State} (h : Ready s) (thin : Thins s t) (sl : t.sl = s.sl)
    (atExit : headAtExit s = true → headAtExit t = true)
    (quiet : s.sn.quiet = none → t.sn.quiet = none) (drive : s.dc.drive = .off → t.dc.drive = .off) : Ready t :=
  h.event thin.running thin.inUse thin.stationOpen (calls_nil_of_thins thin) (fun hj => ⟨sl ▸ hj, atExit⟩) quiet drive

theorem alike_ready {s t : State} (a : AlikeButTerms s t) (h : Ready s) : Ready t where
  judged hj := by rw [a.configured, a.role, a.headAtExit]; exact h.judged (a.sl ▸ hj)
  calls hr hc ho := by rw [a.calls]; exact h.calls (a.role ▸ hr) (a.configured ▸ hc) (a.stationOpen ▸ ho)
  quiet hc := by rw [a.quiet]; exact h.quiet (a.configured ▸ hc)
  drive hc := by rw [a.drive]; exact h.drive (a.configured ▸ hc)

/-! ## A detection -/

theorem latchFault_atExit (k : FaultKind) (d : Byte) (t v : Word16) (s : State) :
    headAtExit s = true → headAtExit (latchFault k d t v s) = true := by
  refine latchFault_keeps (I := fun u => headAtExit s = true → headAtExit u = true) id
    (fun u hu h => by simpa [headAtExit] using hu h) (fun _ _ _ => ?_) fun _ _ => id
  obtain ⟨-, -, -, -, eyeX, -, empty, -⟩ := enterFaulted_blocks (withFault k (detected d t v s) s)
  exact headAtExit_of_zq empty eyeX

theorem latchFault_rest (k : FaultKind) (d : Byte) (t v : Word16) (s : State) :
    (s.sn.quiet = none → (latchFault k d t v s).sn.quiet = none)
      ∧ (s.dc.drive = .off → (latchFault k d t v s).dc.drive = .off) := by
  refine latchFault_keeps (I := fun u => (s.sn.quiet = none → u.sn.quiet = none) ∧ (s.dc.drive = .off → u.dc.drive = .off))
    ⟨id, id⟩ (fun u hu => by simpa using hu) (fun _ _ _ => ?_) fun _ _ => ⟨id, id⟩
  obtain ⟨-, -, -, -, -, -, -, drive, -⟩ := enterFaulted_blocks (withFault k (detected d t v s) s)
  exact ⟨fun _ => by rw [WashProofs.enterFaulted_sn], fun _ => drive⟩

theorem latchFault_ready (k : FaultKind) (d : Byte) (t v : Word16) {s : State} (h : Ready s) :
    Ready (latchFault k d t v s) := by
  obtain ⟨quiet, drive⟩ := latchFault_rest k d t v s
  exact h.thin (CallProofs.latchFault_rests k d t v s).toThins (by simp) (latchFault_atExit k d t v s) quiet drive

/-- Entry to FAULTED settles the node itself: the drive is off, the quiet timer cancelled, and the STATE announced
(R14). -/
theorem enterFaulted_settled {s : State} (h : Settled s) (hc : configured s = true) : Settled (enterFaulted s) := by
  obtain ⟨judgement, -, need, -⟩ := h
  obtain ⟨-, expected, -, -, eyeX, -, empty, drive, -⟩ := enterFaulted_blocks s
  have sn := WashProofs.enterFaulted_sn s
  have unbinds := WashProofs.enterFaulted_onlyUnbinds s
  have contents : (enterFaulted s).zq.queue.map (·.content) = s.zq.queue.map (·.content) :=
    unbinds.map_eq fun _ => rfl
  have inUse : configured (enterFaulted s) = true := by rw [configured, sn]; rfl
  have out : inService (enterFaulted s) = false := by rw [inService, sn]; rfl
  have sameRole : role (enterFaulted s) = role s := by simp [role]
  refine ⟨?_, ?_, fun hr _ => ?_, by simp [offerReady, out], ?_, fun _ => ?_⟩
  · rw [JudgementOk, hc, headAtExit] at judgement
    rw [JudgementOk, inUse, sameRole, headAtExit, empty, eyeX]
    simpa using judgement
  · rw [QuietOk, sn]; rfl
  · have sum : stationSum (enterFaulted s) = stationSum s := by
      rw [stationSum, stationSum, emptyCount_of_contents contents, expected, unbinds.calls]
    have target : targetEmpties (enterFaulted s) = targetEmpties s := targetEmpties_of_ss (by simp)
    rw [sum, target, unbinds.calls, (CallProofs.enterFaulted_calls s).2]
    exact need (sameRole ▸ hr) hc
  · simp [DriveOk, drive, driveWanted, out]
  · unfold enterFaulted at inUse ⊢
    rw [announce_ownBody]
    exact announce_announced (by simpa [configured] using inUse)

/-- A detection that no test follows leaves the node settled: it makes the node FAULTED, or changes the faults alone. -/
theorem latchFault_settled (k : FaultKind) (d : Byte) (t v : Word16) {s : State} (h : Settled s) :
    Settled (latchFault k d t v s) := by
  have latched : Settled (withFault k (detected d t v s) s) := { SameForTests.refl s with }.settled rfl h
  exact latchFault_keeps h (fun u hu => alike_settled (sendNotice_alike ..) hu)
    (fun _ _ service => enterFaulted_settled latched (configured_of_inService service)) fun _ _ => latched

/-! ## The other events -/

@[simp] theorem startRunOnIfEmpty_drive (s : State) : (startRunOnIfEmpty s).dc.drive = s.dc.drive := by
  unfold startRunOnIfEmpty; split <;> rfl

@[simp] theorem dropExpected_drive (n : Nat) (s : State) : (dropExpected n s).dc.drive = s.dc.drive := by
  simp [dropExpected]

@[simp] theorem loseExpected_drive (n : Nat) (s : State) : (loseExpected n s).dc.drive = s.dc.drive := by
  unfold loseExpected; split <;> simp

theorem loseExpected_ready (n : Nat) {s : State} (h : Ready s) : Ready (loseExpected n s) :=
  h.event (by simp) (RackProofs.loseExpected_retains n s).inUse (by simp) (by simp) (fun hj => ⟨by simpa using hj, by simp [headAtExit]⟩)
    (by rw [loseExpected_sn]; exact id) (by simp)

theorem makeStray_ready (d : Byte) (v : Word16) {s : State} (h : Ready s) : Ready (makeStray d v s) :=
  h.thin (CallProofs.makeStray_thins d v s) (by simp) (by simp [headAtExit, makeStray, joinQueue])
    (by simp [makeStray, joinQueue, cancelQuiet]) (by simp [makeStray, joinQueue, cancelRunOn])

theorem arrive_ready (n : Nat) {s : State} (h : Ready s) : Ready (arrive n s) := by
  refine h.thin (CallProofs.arrive_thins n s) ?_ ?_ ?_ ?_
  all_goals unfold arrive; split
  all_goals simp [headAtExit, joinQueue, cancelQuiet, cancelRunOn]

@[simp] theorem leaveHead_drive (s : State) : (leaveHead s).dc.drive = s.dc.drive := by
  simp only [leaveHead]; split <;> simp

/-- The leave of the head takes its judgement with it (R109). -/
theorem rackGoneFromExit_ready {s : State} (h : Ready s) (hq : s.zq.queue ≠ []) :
    Ready (rackGoneFromExit (setExitEye false s)) := by
  obtain ⟨-, sl, dc, -⟩ := RackProofs.rackGoneFromExit_blocks (s := setExitEye false s) hq
  have thin := CallProofs.rackGoneFromExit_thins (setExitEye false s)
  have judgement : (rackGoneFromExit (setExitEye false s)).sl.judgement = none := by
    obtain ⟨head, rest, queue⟩ := List.exists_cons_of_ne_nil hq
    rw [sl]; exact (RackProofs.leaveHead_blocks (s := setExitEye false s) queue).2.1
  have drive : (rackGoneFromExit (setExitEye false s)).dc.drive = s.dc.drive := by rw [dc, leaveHead_drive]; rfl
  have sn := (rackGoneFromExit_rest (setExitEye false s)).2
  exact h.event thin.running thin.inUse thin.stationOpen (fun none => calls_nil_of_thins thin none)
    (fun hj => by simp [judgement] at hj) (by rw [sn]; exact id) (by rw [drive]; exact id)

/-- An exit eye that shows no rack where none was: nothing was judged (R10, R39). -/
theorem exitClear_ready {s : State} (h : Ready s) (idle : configured s = false ∨ s.zq.queue = []) :
    Ready (setExitEye false s) := by
  refine { h with judged := fun hj => ?_ }
  obtain ⟨hc, -, atExit⟩ := h.judged hj
  obtain unconfigured | empty := idle
  · exact nomatch hc.symm.trans unconfigured
  · simp [headAtExit, empty] at atExit

/-- A node whose tests follow has left RECOVERING or FAULTED: they read the service state anew. -/
theorem Ready.service {s t : State} (h : Ready s) (hc : configured s = true) (ht : configured t = true)
    (running : t.ss.running = s.ss.running) (zq : t.zq = s.zq) (sl : t.sl = s.sl) (cl : t.cl = s.cl) : Ready t where
  judged hj := by
    obtain ⟨-, sort, atExit⟩ := h.judged (sl ▸ hj)
    exact ⟨ht, by rwa [role, running], by rwa [headAtExit, zq]⟩
  calls hr _ ho := by rw [cl]; exact h.calls (by rwa [role, ← running]) hc (by rwa [← cl])
  quiet hn := nomatch ht.symm.trans hn
  drive hn := nomatch ht.symm.trans hn

theorem changeTerms_ready {change : State → State} {s : State} (h : Ready s) (a : AlikeButTerms s (change s)) :
    Ready (changeTerms change s) := by
  have changed : Ready (change s) := alike_ready a h
  obtain ⟨-, -, begins⟩ | ⟨-, -, ends⟩ | ⟨-, stays⟩ := changeTerms_cases change s
  · rw [begins]
    exact changed.event (by simp) (by simp [configured, haltBegins, cancelQuiet]) (by simp) (by simp)
      (fun hj => ⟨by simpa using hj, by simp [headAtExit, haltBegins, setWindows]⟩) (by simp [haltBegins, cancelQuiet])
      (by simp [haltBegins, cancelRunOn, setDrive_off])
  · rw [ends]
    exact changed.event (by simp) (by simp [configured]) (by simp) (by simp)
      (fun hj => ⟨by simpa using hj, by simp [headAtExit, haltEnds, setWindows]⟩) (by simp) (by simp)
  · rw [stays]; exact changed

theorem setEntryEye_ready (inlet : Inlet) (blocked : Bool) {s : State} (h : Ready s) :
    Ready (setEntryEye inlet blocked s) := by
  cases inlet <;> exact { h with }

/-- An entry eye that the node does not use: no test of a configured node reads it, and an UNCONFIGURED node makes none
(R2, R10). -/
theorem otherEye_settled (inlet : Inlet) {s : State} (h : Settled s) (other : takesEntryEye inlet s = false) :
    Settled (setEntryEye inlet true s) := by
  have sn : (setEntryEye inlet true s).sn = s.sn := by cases inlet <;> rfl
  cases hc : configured s with
  | false =>
    have settles := (setEntryEye_ready inlet true (Settled.ready h)).settle
    rwa [settle_unconfigured ((configured_of_sn (by rw [sn])).trans hc)] at settles
  | true =>
    cases inlet with
    | one => simp [takesEntryEye, hc] at other
    | two =>
      have unused : (role s == .merge) = false := by simpa [takesEntryEye, hc] using other
      have clear : entryEyesClear (setEntryEye .two true s) = entryEyesClear s := by
        have same : role (setEntryEye .two true s) = role s := rfl
        rw [entryEyesClear, entryEyesClear, same, unused]; rfl
      exact SameForTests.settled { SameForTests.refl s with eyesClear := clear } rfl h

/-! ## Every step -/

theorem settled_keep (c : Instr) : Keeps c Settled Ready where
  alike := alike_settled
  within a h := alike_ready a.toAlikeButTerms h
  before h := Settled.ready h
  tests := Ready.settle
  otherEye inlet s h other := otherEye_settled inlet h other
  period {s} h _ := SameForTests.announced (s := s)
    { running := by simp, service := by simp, quiet := by simp, halt := by simp [halted], contents := by simp
      expected := by simp, eyesClear := by simp [entryEyesClear, role], eyeX := by simp, ex := by simp, drive := by simp
      runOn := by simp, entries := by simp [placeState], sl := by simp, callCount := by simp, spurCalls := by simp
      stationOpen := by simp } (fun _ => rfl) h
  renotice k f s h _ := alike_settled (sendNotice_alike ..) (SameForTests.settled { SameForTests.refl s with } rfl h)
  restated e s h load := alike_settled (sendFrame_alike ..) (SameForTests.settled (s := s)
    { SameForTests.refl s with callCount := by simp, spurCalls := fun spur => by simp [load] at spur } rfl h)
  written w s _ h := alike_settled (sendFrame_alike ..) (SameForTests.settled { SameForTests.refl s with } rfl h)
  latch k d t v s h _ := latchFault_settled k d t v h
  latchAmid k d t v s h _ := latchFault_ready k d t v h
  eye inlet blocked s h := setEntryEye_ready inlet blocked (Settled.ready h)
  arrived n s h _ := arrive_ready n h
  stray d v s h _ := makeStray_ready d v h
  exitBlocked h := (Settled.ready h).event rfl rfl rfl id (fun hj => ⟨hj, by simp +contextual [headAtExit, setExitEye]⟩) id id
  exitClear h idle := exitClear_ready (Settled.ready h) idle
  rackGone h _ hq := rackGoneFromExit_ready (Settled.ready h) hq
  head f s h := (Settled.ready h).event (by simp) (by simp [configured]) (by simp) (by simp)
    (fun hj => ⟨by simpa using hj, by simp [headAtExit]⟩) (by simp) (by simp)
  lost n s h := loseExpected_ready n h
  dropped n s h := (Settled.ready h).event (by simp) (by simp [configured]) (by simp) (by simp)
    (fun hj => ⟨by simpa using hj, by simp [headAtExit, dropExpected]⟩) (by simp) (by simp)
  passed source body u s h _ := (Settled.ready h).thin (CallProofs.joinExpected_thins source body u s) (by simp)
    (by simp [headAtExit]) (by rw [joinExpected_sn]; simp) (by simp)
  accepted w s h _ := by
    obtain ⟨-, sn, empty, eyeX⟩ := acceptOffer_rest w s
    exact (Settled.ready h).thin (CallProofs.acceptOffer_thins w s) (by simp) (headAtExit_of_zq empty eyeX) (by rw [sn]; exact id) (by simp)
  refused z s h _ := (Settled.ready h).thin (CallProofs.refuseOffer_thins z s) (by simp) (by simp [headAtExit]) (by simp) (by simp)
  holdOffEnds f s h := { Settled.ready h with }
  travelled h _ := { Settled.ready h with }
  stuck {s} h _ := latchFault_ready _ _ _ _ ((Settled.ready h).event (by simp) (by simp [configured]) (by simp) (by simp)
    (fun hj => ⟨by simpa using hj, by simp [headAtExit]⟩) (by simp) (by simp))
  runOnEnds h := { Settled.ready h with }
  neighbours f s h := { Settled.ready h with }
  fewerCalls p s h := (Settled.ready h).event rfl rfl rfl (fun none => by simp [none]) (fun hj => ⟨hj, id⟩) id id
  storedCall key s h spur := { Settled.ready h with
    judged := by simpa [configured, role, headAtExit] using (Settled.ready h).judged
    calls := fun load => by simp [role] at load spur; simp [spur] at load
    quiet := by simpa [configured] using (Settled.ready h).quiet
    drive := by simpa [configured] using (Settled.ready h).drive }
  opened h _ := { Settled.ready h with calls := fun _ _ closed => nomatch closed }
  closed {s} h _ := { Settled.ready h with
    judged := by simpa [configured, role, headAtExit] using (Settled.ready h).judged
    calls := fun _ _ _ => CallProofs.withdrawAll_calls (le_refl _)
    quiet := by simpa [configured] using (Settled.ready h).quiet
    drive := by simpa [configured] using (Settled.ready h).drive }
  terms h a := changeTerms_ready (Settled.ready h) a
  sampling h _ := { h with }
  quietEnds {s} _ h recovering := (Settled.ready h).service (by simp [configured, recovering]) rfl rfl rfl rfl rfl
  cleared code s h hc := (Settled.ready h).service hc ((RackProofs.unlatch_retains code s).inUse.trans hc) (by simp)
    (by simp) (by simp) (by simp)

theorem resetNode_settled (cause : ResetCause) (s : State) : Settled (resetNode cause s) := by
  obtain ⟨-, -, zq, ex, dc, -, -, sl, cl, sn, -⟩ := ResetProofs.resetNode_frame cause s
  have judgement : (resetNode cause s).sl.judgement = none := by rw [sl]; rfl
  have calls : (resetNode cause s).cl.calls = [] := by rw [cl]; rfl
  have drive : (resetNode cause s).dc.drive = .off := by rw [dc]; rfl
  have quiet : (resetNode cause s).sn.quiet = none := by rw [sn]; rfl
  have held : halted (resetNode cause s) = true := by rw [halted, sn]; rfl
  have away : headAtExit (resetNode cause s) = false := by rw [headAtExit, zq]; rfl
  refine ⟨?_, ?_, fun _ _ => ?_, by simp [offerReady, held], by simp [DriveOk, drive, driveWanted, held], fun hc => ?_⟩
  · simp [JudgementOk, judgement, away]
  · simp [QuietOk, quiet, quietCondition, held]
  · have closed : (resetNode cause s).cl.stationOpen = false := by rw [cl]; rfl
    simp [calls, closed]
  · have placed : configured (ResetProofs.freshNode cause s) = true := by
      rw [configured, sn] at hc; exact hc
    rw [ResetProofs.resetNode_eq, if_pos placed, placeState_ownBody]; rfl

/-- Settles O55: every event leaves the node settled itself, or leaves what the tests settle it from; and a reset announces
the node it starts. -/
theorem stepKeepsTheNodeSettled : Obligations.StepKeepsTheNodeSettled :=
  fun _ _ h ht => step_keeps settled_keep (fun cause u _ => resetNode_settled cause u) h ht

end Sys2Proof.StepProofs
end

section
/-! The values a reset gives, and the reset state. -/

namespace Sys2Proof.ResetProofs
open Sys2Proof.Machine

/-! # The neighbour table of a reset (R63) -/

/-- The zones of a list, each once, behind those already listed. -/
def listOnce (zs : List Addr) (l : List Addr) : List Addr := l.foldl (fun zs z => if z ∈ zs then zs else zs ++ [z]) zs

theorem mem_listOnce (l zs : List Addr) (z : Addr) : z ∈ listOnce zs l ↔ z ∈ zs ∨ z ∈ l := by
  induction l generalizing zs with
  | nil => simp [listOnce]
  | cons x rest ih =>
    rw [listOnce, List.foldl_cons, ← listOnce, ih]
    split
    · rename_i known
      simp only [List.mem_cons]
      exact ⟨fun h => h.elim .inl (.inr ∘ .inr), fun h => h.elim .inl fun h => h.elim (fun e => .inl (e ▸ known)) .inr⟩
    · simp [or_assoc]

theorem nodup_listOnce (l zs : List Addr) (h : zs.Nodup) : (listOnce zs l).Nodup := by
  induction l generalizing zs with
  | nil => exact h
  | cons x rest ih =>
    rw [listOnce, List.foldl_cons, ← listOnce]
    apply ih; split
    · exact h
    · rename_i fresh
      exact List.nodup_append.2 ⟨h, by simp, fun a ha b hb e => fresh (by simp_all)⟩

theorem nodup_neighbourZones (c : Items) : (neighbourZones c).Nodup := nodup_listOnce _ _ .nil

theorem mem_neighbourZones (c : Items) (z : Addr) : z ∈ neighbourZones c ↔
    ∃ i ∈ [Item.upstream1, .upstream2, .outlet1, .outlet2, .outlet3], itemZone c i = some z := by
  refine (mem_listOnce ..).trans ?_
  simp only [List.not_mem_nil, false_or, List.mem_filterMap]

/-! # The values after a reset (R9, R45, R46, R63, R94, R122, R141, R153, R160, R161) -/

/-- The STATE that announces a node just reset is the one frame in its list (R67). -/
theorem resetNode_announces (cause : ResetCause) {s : State} (valid : validityCheck (loadedItems s.ss.store) = none) :
    (resetNode cause s).li.tx.map (·.frame)
      = [ownFrame (resetNode cause s) .state 0 (stateOctets (ownBody (resetNode cause s)))] := by
  have inUse : configured (freshNode cause s) = true := by rw [freshNode_configured, valid]; rfl
  have zone : sendAddr (placeState (freshNode cause s)) = sendAddr (freshNode cause s) := by
    rw [sendAddr, sendAddr, ownZone, ownZone]; simp
  rw [resetNode_valid cause valid, placeState_ownBody, ownFrame, zone]
  simp only [placeState, sendFrame, inUse, Bool.true_or, if_true]
  rfl

theorem resetNode_period (cause : ResetCause) {s : State} (valid : validityCheck (loadedItems s.ss.store) = none) :
    (resetNode cause s).nt.period = some { start := (resetNode cause s).tb, duration := 500 } := by
  rw [resetNode_valid cause valid]; simp [placeState, startTimer, statePeriodMs]

theorem resetNode_line (cause : ResetCause) (s : State) :
    (resetNode cause s).li.line = .busy ∧ (resetNode cause s).li.recessiveRun = 0
      ∧ (resetNode cause s).li.receiveErrors = 0 ∧ (resetNode cause s).li.lineDrops = 0
      ∧ (resetNode cause s).li.slot = .nothing ∧ (resetNode cause s).li.aborting = false := by
  rw [resetNode_eq]; split
  · rename_i inUse
    simp only [placeState, sendFrame, inUse, Bool.true_or, if_true]
    exact ⟨rfl, rfl, rfl, rfl, rfl, rfl⟩
  · exact ⟨rfl, rfl, rfl, rfl, rfl, rfl⟩

theorem resetPosition_eq (c : Items) :
    resetPosition c = if (itemValue c .outlet1).isSome then BitVec.ofNat 2 (itemNat c .position1) else 0 := by
  simp [resetPosition, outletZone, outletItem, itemZone, outletPosition]

theorem validityCheck_factory : validityCheck (loadedItems Items.unset) = some { row := 1, item := 1 } := by
  have first : unsetItems (loadedItems Items.unset) [.zoneNumber] = [.zoneNumber] := by
    simp [unsetItems, itemValue_loadedItems, itemDefault]
  rw [validityCheck, checkRows, first]; rfl

/-- A POWER reset with a factory store is the reset state. -/
theorem resetNode_factory {s : State} (h : s.ss.store = Items.unset) :
    resetNode .power s = { State.reset with pending := s.pending } := by
  have invalid : validityCheck (loadedItems s.ss.store) = some { row := 1, item := 1 } := by
    rw [h]; exact validityCheck_factory
  have running : runningItems s.ss.store = Items.unset := runningItems_invalid invalid
  rw [resetNode_invalid .power invalid, freshNode, invalid, running, neighbourZones_unset, h]
  simp [State.reset, timeAfter, resetsAfter, resetPosition, outletZone, itemZone, NeighbourTable.reset]

/-- Settles O4: the blocks of a reset node are those of the node that the reset starts, and the validity check decides
whether it announces itself. -/
theorem resetGivesEveryBlockItsValues : Obligations.ResetGivesEveryBlockItsValues := by
  refine ⟨fun s factory => congrArg Host.Outcome.next (resetNode_factory factory), fun c cause s hc => ?_⟩
  have commanded : exec c s = .next (resetNode cause s) := by
    obtain ⟨rfl, rfl⟩ | ⟨rfl, rfl⟩ := hc <;> rfl
  have time : timeAfter cause s.tb = if cause = .power then 0 else s.tb := by
    obtain ⟨-, rfl⟩ | ⟨-, rfl⟩ := hc <;> rfl
  have resets : resetsAfter cause s.sn.resets
      = if cause = .power then 0 else if s.sn.resets < 255 then s.sn.resets + 1 else 255 := by
    obtain ⟨-, rfl⟩ | ⟨-, rfl⟩ := hc
    · rfl
    · simp only [resetsAfter, reduceCtorEq, if_false]; split <;> omega
  obtain ⟨tb, resetn, zq, ex, dc, su, ma, sl, cl, sn, ss, pending, entries⟩ := resetNode_frame cause s
  obtain ⟨line, run, errors, drops, slot, aborting⟩ := resetNode_line cause s
  refine ⟨_, commanded, tb.trans time, resetn, pending, line, run, errors, drops, slot, aborting, zq, ?_, dc, su, ma, sl,
    cl, ?_, ?_⟩
  · rw [ex, ss, resetPosition_eq]; rfl
  · rw [entries]
    intro n hn
    obtain ⟨z, -, rfl⟩ := List.mem_map.1 hn
    exact ⟨rfl, rfl, rfl, rfl⟩
  · rw [sn, ss, tb]
    refine ⟨rfl, rfl, rfl, rfl, rfl, rfl, rfl, rfl, rfl, rfl, resets, rfl, rfl, rfl, rfl, fun valid => ?_, fun r invalid => ?_⟩
    · have zones : (resetNode cause s).nt.entries.map (·.zone) = neighbourZones (runningItems s.ss.store) := by
        rw [entries]; simp [Neighbour.unheard, Function.comp_def]
      rw [zones]
      refine ⟨by rw [freshNode, valid]; rfl, valid, runningItems_valid valid, resetNode_announces cause valid,
        by rw [resetNode_period cause valid, tb], nodup_neighbourZones _, mem_neighbourZones _⟩
    · have bare := StepProofs.resetNode_bare cause invalid
      refine ⟨by rw [freshNode, invalid]; rfl, invalid, fun i => ?_, ?_, bare.entries, bare.statePeriod⟩
      · exact (congrArg (itemValue · i) (runningItems_invalid invalid)).trans (itemValue_unset i)
      · rw [resetNode_invalid cause invalid]; rfl

/-! # The reset state (R9, R157) -/

/-- The reset state is what a POWER reset makes of it. -/
theorem reset_eq : resetNode .power State.reset = State.reset := resetNode_factory rfl

/-- Settles O52: the reset state is a node just reset, and has each condition that a reset gives; the ranges are those of an
empty store and of empty lists. -/
theorem resetStateMeetsTheInvariants : Obligations.ResetStateMeetsTheInvariants := by
  have transmit := LineProofs.resetNode_transmitOk .power State.reset
  have exit := (StepProofs.exitAgrees_iff _).1 (StepProofs.resetNode_exitAgrees .power State.reset)
  have settled := StepProofs.resetNode_settled .power State.reset
  have accounted := StepProofs.resetNode_accounted .power State.reset
  rw [reset_eq] at transmit exit settled accounted
  have ⟨_, _, _, _, drive, _⟩ := settled
  have invalid : configured State.reset = (validityCheck State.reset.ss.running).isNone := by
    have unset : (validityCheck Items.unset).isNone = false := by
      simpa [Option.isSome_iff_ne_none] using RackProofs.validityCheck_unset
    exact unset.symm
  refine ⟨transmit, exit, StepProofs.safeMovement_of_exitOk exit drive, settled, accounted.ok.1, accounted.ok.2,
    ⟨RackProofs.itemsOk_unset, RackProofs.itemsOk_unset, rfl, invalid⟩, ?_, ?_, ?_, ?_⟩
  · exact ⟨by decide, Nat.zero_le _, nofun, nofun⟩
  · exact ⟨by decide, .nil, nofun⟩
  · exact nofun
  · exact ⟨.nil, nofun⟩

end Sys2Proof.ResetProofs
end

section
/-! The validity check of the items as loaded (R5, R157, R161). -/

namespace Sys2Proof.SetupProofs
open Sys2Proof.Machine

/-! # The rows of the check

## The first row that fails -/

theorem firstFault_passed (n : Nat) {is : List Item} (h : is = []) (rest : List (List Item)) :
    firstFault n (is :: rest) = firstFault (n + 1) rest := by rw [h]; rfl

theorem firstFault_failed (n : Nat) {is : List Item} (h : is ≠ []) (rest : List (List Item)) :
    firstFault n (is :: rest) = some { row := n, item := reportedItem is } := by
  cases is with
  | nil => exact absurd rfl h
  | cons i is => rfl

/-- The item reported for a row is one of the row's items, whichever the spec leaves it to be (log entry 3). -/
theorem reportedItem_mem {is : List Item} (h : is ≠ []) : ∃ i ∈ is, reportedItem is = itemNumber i := by
  have numbers : reportedItem is ∈ is.map itemNumber := by
    unfold reportedItem
    cases hn : is.map itemNumber with
    | nil => exact absurd (List.map_eq_nil_iff.1 hn) h
    | cons n ns =>
      cases ns with
      | nil => simp
      | cons m ns =>
        have inRange : Config.reportedItem (n :: m :: ns) % (n :: m :: ns).length < (n :: m :: ns).length :=
          Nat.mod_lt _ (by simp)
        simp only [List.getD_eq_getElem _ 0 inRange]
        exact List.getElem_mem inRange
  obtain ⟨i, hi, number⟩ := List.mem_map.1 numbers
  exact ⟨i, hi, number.symm⟩

/-! ## Items that are set -/

/-- Every item of a list is set. -/
def AllSet (c : Items) (is : List Item) : Prop := ∀ i ∈ is, (itemValue c i).isSome = true

theorem unsetItems_eq_nil {c : Items} {is : List Item} : unsetItems c is = [] ↔ AllSet c is := by
  simp [unsetItems, AllSet, List.filter_eq_nil_iff, Option.isSome_iff_ne_none]

theorem mem_unsetItems {c : Items} {is : List Item} {i : Item} :
    i ∈ unsetItems c is ↔ i ∈ is ∧ itemValue c i = none := by
  simp [unsetItems]

/-- A row of items that must be set reports one that is not. -/
theorem reported_unset {c : Items} {is : List Item} (h : ¬ AllSet c is) :
    ∃ i ∈ is, itemValue c i = none ∧ reportedItem (unsetItems c is) = itemNumber i := by
  obtain ⟨i, hi, number⟩ := reportedItem_mem (mt unsetItems_eq_nil.1 h)
  obtain ⟨hm, unset⟩ := mem_unsetItems.1 hi
  exact ⟨i, hm, unset, number⟩

/-! ## The thresholds of a WASH zone (R5) -/

/-- The thresholds are in order. -/
def InOrder (c : Items) : Prop :=
  itemNat c .tLo < itemNat c .tHi ∧ itemNat c .tLo ≤ itemNat c .tMin ∧ itemNat c .tMin < itemNat c .tFull
    ∧ itemNat c .tFull ≤ itemNat c .tHi

theorem thresholdItems_eq_nil (c : Items) : thresholdItems c = [] ↔ InOrder c := by
  unfold thresholdItems InOrder
  simp only []; split
  · simp; omega
  split
  · rename_i order
    simp only [Bool.and_eq_true, decide_eq_true_eq] at order
    simp; omega
  · rename_i order
    simp only [Bool.and_eq_true, decide_eq_true_eq] at order
    simp only [List.append_eq_nil_iff, ite_eq_right_iff, imp_false, List.cons_ne_nil, Bool.or_eq_true,
      decide_eq_true_eq]
    omega

theorem thresholdItems_reversed {c : Items} (h : itemNat c .tHi ≤ itemNat c .tLo) : thresholdItems c = [.tLo] :=
  if_pos h

theorem mem_thresholdItems {c : Items} (h : itemNat c .tLo < itemNat c .tHi) {i : Item} (hi : i ∈ thresholdItems c) :
    i = .tMin ∧ (itemNat c .tMin < itemNat c .tLo ∨ itemNat c .tFull ≤ itemNat c .tMin)
      ∨ i = .tFull ∧ (itemNat c .tHi < itemNat c .tFull ∨ itemNat c .tFull ≤ itemNat c .tMin) := by
  unfold thresholdItems at hi
  simp only [if_neg (Nat.not_le.2 h)] at hi
  split at hi
  · exact nomatch hi
  · simp only [List.mem_append] at hi
    rcases hi with hi | hi
    · split at hi
      · rename_i low; exact .inl ⟨List.mem_singleton.1 hi, by simpa using low⟩
      · exact nomatch hi
    · split at hi
      · rename_i high; exact .inr ⟨List.mem_singleton.1 hi, by simpa using high⟩
      · exact nomatch hi

/-! ## The cases of the check -/

/-- Every item that R5 asks of a zone of the running role is set. -/
def RoleItemsSet (c : Items) : Prop :=
  AllSet c [.zoneNumber, .role, .side, .capacity, .iSpan, .iJam] ∧ AllSet c (requiredItems (runningRole c))

/-- The check after the rows of items that must be set. -/
def roleRows (c : Items) : List (List Item) :=
  [ if runningRole c = .wash then thresholdItems c else [],
    if runningRole c = .sort && itemNat c .requiredStages == 0 then [.requiredStages] else [],
    if runningRole c = .load && itemNat c .capacity < itemNat c .targetEmpties then [.targetEmpties] else [] ]

theorem validityCheck_eq (c : Items) : validityCheck c = firstFault 1
    (unsetItems c [.zoneNumber] :: unsetItems c [.role, .side] :: unsetItems c [.capacity, .iSpan, .iJam]
      :: unsetItems c (requiredItems (runningRole c)) :: roleRows c) := rfl

theorem allSet_append {c : Items} {a b : List Item} : AllSet c (a ++ b) ↔ AllSet c a ∧ AllSet c b :=
  List.forall_mem_append

theorem validityCheck_zone {c : Items} (h : ¬ AllSet c [.zoneNumber]) :
    validityCheck c = some { row := 1, item := reportedItem (unsetItems c [.zoneNumber]) } := by
  rw [validityCheck_eq, firstFault_failed 1 (mt unsetItems_eq_nil.1 h)]

theorem validityCheck_roleAndSide {c : Items} (zone : AllSet c [.zoneNumber]) (h : ¬ AllSet c [.role, .side]) :
    validityCheck c = some { row := 2, item := reportedItem (unsetItems c [.role, .side]) } := by
  rw [validityCheck_eq, firstFault_passed 1 (unsetItems_eq_nil.2 zone), firstFault_failed 2 (mt unsetItems_eq_nil.1 h)]

theorem validityCheck_common {c : Items} (first : AllSet c [.zoneNumber, .role, .side])
    (h : ¬ AllSet c [.capacity, .iSpan, .iJam]) :
    validityCheck c = some { row := 3, item := reportedItem (unsetItems c [.capacity, .iSpan, .iJam]) } := by
  obtain ⟨zone, roleAndSide⟩ := allSet_append.1 (show AllSet c ([.zoneNumber] ++ [.role, .side]) from first)
  rw [validityCheck_eq, firstFault_passed 1 (unsetItems_eq_nil.2 zone),
    firstFault_passed 2 (unsetItems_eq_nil.2 roleAndSide), firstFault_failed 3 (mt unsetItems_eq_nil.1 h)]

/-- With the common items set, the items of the role decide, and then the conditions of its role. -/
theorem validityCheck_role {c : Items} (common : AllSet c [.zoneNumber, .role, .side, .capacity, .iSpan, .iJam]) :
    validityCheck c = firstFault 4 (unsetItems c (requiredItems (runningRole c)) :: roleRows c) := by
  obtain ⟨zone, rest⟩ := allSet_append.1
    (show AllSet c ([.zoneNumber] ++ ([.role, .side] ++ [.capacity, .iSpan, .iJam])) from common)
  obtain ⟨roleAndSide, others⟩ := allSet_append.1 rest
  rw [validityCheck_eq, firstFault_passed 1 (unsetItems_eq_nil.2 zone),
    firstFault_passed 2 (unsetItems_eq_nil.2 roleAndSide), firstFault_passed 3 (unsetItems_eq_nil.2 others)]

theorem validityCheck_conditions {c : Items} (items : RoleItemsSet c) : validityCheck c = firstFault 5 (roleRows c) := by
  rw [validityCheck_role items.1, firstFault_passed 4 (unsetItems_eq_nil.2 items.2)]

theorem roleRows_wash {c : Items} (h : runningRole c = .wash) : roleRows c = [thresholdItems c, [], []] := by
  simp [roleRows, h]

theorem roleRows_sort {c : Items} (h : runningRole c = .sort) :
    roleRows c = [[], if itemNat c .requiredStages = 0 then [.requiredStages] else [], []] := by
  simp [roleRows, h]

theorem roleRows_load {c : Items} (h : runningRole c = .load) :
    roleRows c = [[], [], if itemNat c .capacity < itemNat c .targetEmpties then [.targetEmpties] else []] := by
  simp [roleRows, h]

/-- The check passes exactly when the items are set and the role's condition holds. -/
theorem validityCheck_eq_none (c : Items) : validityCheck c = none ↔ RoleItemsSet c
    ∧ (runningRole c = .wash → InOrder c) ∧ (runningRole c = .sort → itemNat c .requiredStages ≠ 0)
    ∧ (runningRole c = .load → itemNat c .targetEmpties ≤ itemNat c .capacity) := by
  have rows : (∀ is ∈ roleRows c, is = []) ↔ (runningRole c = .wash → InOrder c)
      ∧ (runningRole c = .sort → itemNat c .requiredStages ≠ 0)
      ∧ (runningRole c = .load → itemNat c .targetEmpties ≤ itemNat c .capacity) := by
    simp only [roleRows, List.forall_mem_cons, List.not_mem_nil, false_imp_iff, implies_true, and_true]
    simp [thresholdItems_eq_nil]
  rw [← rows, validityCheck_eq, RackProofs.firstFault_eq_none]
  simp only [List.forall_mem_cons, unsetItems_eq_nil]
  have common : AllSet c [.zoneNumber, .role, .side, .capacity, .iSpan, .iJam]
      ↔ AllSet c [.zoneNumber] ∧ AllSet c [.role, .side] ∧ AllSet c [.capacity, .iSpan, .iJam] := by
    rw [← allSet_append, ← allSet_append]; rfl
  rw [RoleItemsSet, common]
  tauto

/-- The check of a zone whose items are set fails by its role's condition, in the row of that condition. -/
theorem roleCondition_fails {c : Items} {r : SetupFault} (items : RoleItemsSet c) (fails : validityCheck c = some r) :
    (runningRole c = .wash → thresholdItems c ≠ [] ∧ r = { row := 5, item := reportedItem (thresholdItems c) })
      ∧ (runningRole c = .sort → r = { row := 6, item := 29 }) ∧ (runningRole c = .load → r = { row := 7, item := 32 }) := by
  rw [validityCheck_conditions items] at fails
  refine ⟨fun wash => ?_, fun sort => ?_, fun load => ?_⟩
  · rw [roleRows_wash wash] at fails
    by_cases order : thresholdItems c = []
    · rw [firstFault_passed 5 order] at fails; exact nomatch fails
    · rw [firstFault_failed 5 order, Option.some.injEq] at fails
      exact ⟨order, fails.symm⟩
  · rw [roleRows_sort sort, firstFault_passed 5 rfl] at fails
    split at fails
    · exact (Option.some.inj fails).symm
    · exact nomatch fails
  · rw [roleRows_load load, firstFault_passed 5 rfl, firstFault_passed 6 rfl] at fails
    split at fails
    · exact (Option.some.inj fails).symm
    · exact nomatch fails

/-- Settles O5: each clause is the row of the check that its items decide, the rows before it being passed. -/
theorem validityCheckFollowsItsCases : Obligations.ValidityCheckFollowsItsCases := by
  unfold Obligations.ValidityCheckFollowsItsCases
  intro required
  have same (r : Role) : required r = requiredItems r := by cases r <;> rfl
  refine ⟨itemValue_loadedItems, fun c => ?_⟩
  intro allSet oneUnset n inOrder items
  have itemsSet : items = RoleItemsSet c := by
    simp only [items, allSet, same]; rfl
  rw [itemsSet]
  refine ⟨validityCheck_eq_none c, fun r fails => ⟨fun zone => ?_, fun zone unset => ?_, fun first unset => ?_,
    fun common unset => ?_, fun set wash => ?_, fun set => (roleCondition_fails set fails).2.1,
    fun set => (roleCondition_fails set fails).2.2⟩⟩
  · have unset : ¬ AllSet c [.zoneNumber] := by simp [AllSet, zone]
    obtain ⟨i, hi, -, number⟩ := reported_unset unset
    rw [validityCheck_zone unset, Option.some.injEq, number, List.mem_singleton.1 hi] at fails
    exact fails.symm
  · have set : AllSet c [.zoneNumber] := by simp [AllSet, Option.isSome_iff_ne_none, zone]
    obtain ⟨i, hi, none, number⟩ := reported_unset unset
    rw [validityCheck_roleAndSide set unset, Option.some.injEq, number] at fails
    rw [← fails]
    refine ⟨rfl, ?_⟩
    simp only [List.mem_cons, List.not_mem_nil, or_false] at hi
    rcases hi with rfl | rfl
    · exact .inl ⟨rfl, none⟩
    · exact .inr ⟨rfl, none⟩
  · rw [validityCheck_common first unset, Option.some.injEq] at fails
    rw [← fails]; exact ⟨rfl, reported_unset unset⟩
  · simp only [oneUnset, same] at unset ⊢
    have failed := firstFault_failed 4 (mt unsetItems_eq_nil.1 unset) (roleRows c)
    rw [validityCheck_role common, failed, Option.some.injEq] at fails
    rw [← fails]; exact ⟨rfl, reported_unset unset⟩
  · obtain ⟨disorder, fault⟩ := (roleCondition_fails set fails).1 wash
    obtain ⟨i, hi, number⟩ := reportedItem_mem disorder
    refine ⟨by rw [fault], fun reversed => ?_, fun upright => ?_⟩
    · rw [fault, thresholdItems_reversed reversed]; rfl
    · rw [fault]
      simp only [number]
      obtain ⟨rfl, low⟩ | ⟨rfl, high⟩ := mem_thresholdItems upright hi
      · exact .inl ⟨rfl, low⟩
      · exact .inr ⟨rfl, high⟩

end Sys2Proof.SetupProofs
end

section
/-! What the tests that follow an event may change. -/

namespace Sys2Proof.StepProofs
open Sys2Proof.Machine

/-! # The frame of the tests (R12, R48, R59, R67, R109, R128)

## The head's record -/

/-- What the tests leave of a record: the freeze, the judgement and the binding change no more. -/
structure LeftByOffer {α : Type} (g : RackRecord → α) : Prop where
  frozen : ∀ n r, g (freezeRecord n r) = g r
  judged : ∀ o r, g (judgedRecord o r) = g r
  bound : ∀ b (r : RackRecord), g { r with bound := b } = g r

theorem leftByOffer_tag : LeftByOffer RackRecord.tag := ⟨fun _ _ => rfl, fun o _ => by cases o <;> rfl, fun _ _ => rfl⟩

theorem leftByOffer_origin : LeftByOffer RackRecord.origin :=
  ⟨fun _ _ => rfl, fun o _ => by cases o <;> rfl, fun _ _ => rfl⟩

theorem changeHead_map {α : Type} {g : RackRecord → α} {f : RackRecord → RackRecord} (h : ∀ r, g (f r) = g r)
    (s : State) : (changeHead f s).zq.queue.map g = s.zq.queue.map g := by
  unfold changeHead; split <;> simp_all

theorem prepareHead_map {α : Type} {g : RackRecord → α} (h : LeftByOffer g) (s : State) :
    (prepareHead s).zq.queue.map g = s.zq.queue.map g := by
  have judged : (applyJudgement s).zq.queue.map g = s.zq.queue.map g := by
    unfold applyJudgement; split
    · simp only []; split
      · rfl
      split
      · simpa using changeHead_map (h.judged _) { s with sl := _ }
      · simpa using changeHead_map (h.judged _) { s with sl := _ }
    · rfl
  unfold prepareHead; split
  · exact changeHead_map (h.frozen _) s
  · exact judged
  · simpa [bindHead] using changeHead_map (h.bound _) s
  all_goals rfl

theorem unbindOffer_map {α : Type} {g : RackRecord → α} (h : LeftByOffer g) (gone : Bool) (s : State) :
    (unbindOffer gone s).zq.queue.map g = s.zq.queue.map g := by
  unfold unbindOffer; split
  · simp only []; split
    · rfl
    · exact changeHead_map (h.bound none) s
  · rfl

theorem settle_map {α : Type} {g : RackRecord → α} (h : LeftByOffer g) (s : State) :
    (settle s).zq.queue.map g = s.zq.queue.map g := by
  have refused (u : State) : (refuseOffer none u).zq.queue.map g = u.zq.queue.map g := unbindOffer_map h _ u
  have offered (o : Outlet) (z : Addr) (u : State) : (makeOffer o z u).zq.queue.map g = u.zq.queue.map g := by
    simp only [makeOffer]; split
    · simpa using prepareHead_map h u
    · rw [refused]; simpa using prepareHead_map h u
  have tested (u : State) : (testOffer u).zq.queue.map g = u.zq.queue.map g := by
    unfold testOffer; split
    · split
      · rfl
      · exact offered ..
    · rfl
  unfold settle; split
  · simp [tested]
  · rfl

/-! ## The counts of the sort -/

theorem prepareHead_counts (s : State) : (prepareHead s).sn.counts
    = { s.sn.counts with rewashes := (prepareHead s).sn.counts.rewashes, rejects := (prepareHead s).sn.counts.rejects } := by
  have judged (o : Outlet) (c : Counts) : countJudged o c
      = { c with rewashes := (countJudged o c).rewashes, rejects := (countJudged o c).rejects } := by cases o <;> rfl
  unfold prepareHead; split
  · simp
  · unfold applyJudgement; split
    · simp only []; split
      · rfl
      split
      · simpa using judged _ _
      · simpa using judged _ _
    · rfl
  · simp
  all_goals rfl

theorem settle_counts (s : State) : (settle s).sn.counts
    = { s.sn.counts with rewashes := (settle s).sn.counts.rewashes, rejects := (settle s).sn.counts.rejects } := by
  have offered (o : Outlet) (z : Addr) (u : State) : (makeOffer o z u).sn = (prepareHead u).sn := by
    simp only [makeOffer]; split <;> simp
  have tested (u : State) : (testOffer u).sn.counts
      = { u.sn.counts with rewashes := (testOffer u).sn.counts.rewashes, rejects := (testOffer u).sn.counts.rejects } := by
    unfold testOffer; split
    · split
      · rfl
      · rw [offered]; exact prepareHead_counts u
    · rfl
  unfold settle; split
  · simpa using tested (testNeed (testQuiet (formJudgement s)))
  · rfl

/-! ## The diverter -/

theorem settle_diverter (s : State) : (settle s).ex.position = s.ex.position ∧ (settle s).ex.settled = s.ex.settled := by
  have tested (u : State) : (testOffer u).ex.position = u.ex.position ∧ (testOffer u).ex.settled = u.ex.settled := by
    unfold testOffer; split
    · split
      · exact ⟨rfl, rfl⟩
      · rename_i o _
        obtain offered | failed := makeOffer_ex o ((outletZone u.ss.running o).getD 0) u
        · rw [offered]; exact ⟨rfl, rfl⟩
        · rw [failed]; exact ⟨rfl, rfl⟩
    · exact ⟨rfl, rfl⟩
  unfold settle; split
  · simpa using tested (testNeed (testQuiet (formJudgement s)))
  · exact ⟨rfl, rfl⟩

/-! ## The whole node -/

/-- Two nodes with the same blocks are one. -/
theorem state_eq {s t : State} (tb : t.tb = s.tb) (resetn : t.resetn = s.resetn) (li : t.li = s.li) (zq : t.zq = s.zq)
    (ex : t.ex = s.ex) (dc : t.dc = s.dc) (nt : t.nt = s.nt) (su : t.su = s.su) (ma : t.ma = s.ma) (sl : t.sl = s.sl)
    (cl : t.cl = s.cl) (sn : t.sn = s.sn) (ss : t.ss = s.ss) (pending : t.pending = s.pending) : t = s := by
  cases s; cases t
  exact State.mk.injEq .. ▸ ⟨tb, resetn, li, zq, ex, dc, nt, su, ma, sl, cl, sn, ss, pending⟩

/-- Settles O50, block by block. -/
theorem testsOfAnEventChangeNoMore : Obligations.TestsOfAnEventChangeNoMore := by
  intro s
  refine ⟨settle_unconfigured, ?_, by simp, by simp, settle_map leftByOffer_tag s, settle_map leftByOffer_origin s⟩
  obtain ⟨tb, resetn, su, ma, ss, pending⟩ := settle_frame s
  obtain ⟨line, run, errors, waits, slot, aborting⟩ := (settle_placings s).rest
  obtain ⟨expected, tagWindow, eye1, eye2, eyeX, -, -, -, entries, runOn, stationOpen, service, reason, estop, localTerm,
    stopSet, startHold, stopRepeat, estopRelease, faults, cause, resets⟩ := settle_rest s
  obtain ⟨position, settled⟩ := settle_diverter s
  have li : (settle s).li = { (settle s).li with
      line := s.li.line, recessiveRun := s.li.recessiveRun, receiveErrors := s.li.receiveErrors,
      awaitRelease := s.li.awaitRelease, slot := s.li.slot, aborting := s.li.aborting } := by
    rw [← line, ← run, ← errors, ← waits, ← slot, ← aborting]
  have zq : (settle s).zq = { s.zq with queue := (settle s).zq.queue } := by
    simp only [← expected, ← tagWindow, ← eye1, ← eye2, ← eyeX]
  have ex : (settle s).ex = { (settle s).ex with position := s.ex.position, settled := s.ex.settled } := by
    rw [← position, ← settled]
  have dc : (settle s).dc = { (settle s).dc with runOn := s.dc.runOn } := by rw [← runOn]
  have nt : (settle s).nt = { (settle s).nt with entries := s.nt.entries } := by rw [← entries]
  have cl : (settle s).cl = { (settle s).cl with stationOpen := s.cl.stationOpen } := by rw [← stationOpen]
  have sn : (settle s).sn = { s.sn with quiet := (settle s).sn.quiet, counts := { s.sn.counts with
      rewashes := (settle s).sn.counts.rewashes, rejects := (settle s).sn.counts.rejects } } := by
    rw [← settle_counts]
    simp only [← service, ← reason, ← estop, ← localTerm, ← stopSet, ← startHold, ← stopRepeat, ← estopRelease, ← faults,
      ← cause, ← resets]
  exact state_eq tb resetn li zq ex dc nt su ma rfl cl sn ss pending

end Sys2Proof.StepProofs
end

section
/-! What single events do: the eyes, the buttons, the answers to calls and CLEAR. -/

namespace Sys2Proof.EventProofs
open Sys2Proof.Machine
open Sys2Proof.LineProofs (next_running)
open Sys2Proof.RackProofs (joinQueue_eq joining_eq strayRecord_eq received_own)

/-! # The eyes that match no entry (R27, R32, R35) -/

/-- A stray at the exit of an empty queue, its record written out (R35, R36, R100). -/
theorem makeStray_empty {s t : State} (empty : t.zq.queue = []) (running : t.ss = s.ss) :
    makeStray 0 0 t = sendNotice .stray 0 0 0
      { t with
        zq := { t.zq with
          queue := [{ tag := none,
                      content := if role s = .load ∨ runningSide s.ss.running = .return then .empty else .unknown,
                      origin := none, washes := 0, bound := none,
                      results := if role s = .wash ∧ itemNat s.ss.running .requiredCredit ≠ 0 then
                          [{ stage := itemNat s.ss.running .stage, credit := 0, verdict := .pending, faultSeen := false }]
                        else [] }],
          tagWindow := some { start := t.tb, duration := 1000 } },
        dc := { t.dc with runOn := none },
        sn := { t.sn with quiet := none, counts := { t.sn.counts with strays := t.sn.counts.strays + 1 } } } := by
  rw [makeStray, joinQueue_eq, joining_eq _ running, strayRecord_eq running, empty]
  split <;> rfl

/-- Settles O9, by whether the queue holds a record and the node is configured. -/
theorem otherEyeEvents : Obligations.OtherEyeEvents := by
  intro s awake eyes stray
  have event {t : State} (h : (if configured s && s.zq.queue.isEmpty then makeStray 0 0 eyes else eyes) = t) :
      exec .exitEyeBlocked s = .next (settle t) := next_running awake (congrArg settle h)
  refine ⟨fun inlet => next_running awake rfl, fun held => ?_, fun empty inUse => ?_, fun bare => ?_⟩
  · exact event (if_neg (by simp [held]))
  · rw [event ((if_pos (by simp [inUse, empty])).trans (makeStray_empty (s := s) (t := eyes) empty rfl))]
  · exact (event (if_neg (by simp [bare]))).trans (congrArg Host.Outcome.next (settle_unconfigured (s := eyes) bare))

/-! # The buttons (R118, R127) -/

theorem changeHead_cons {s : State} {head : RackRecord} {rest : List RackRecord} (h : s.zq.queue = head :: rest)
    (f : RackRecord → RackRecord) :
    changeHead f s = { s with zq := { s.zq with queue := f head :: rest } } := by
  rw [changeHead, h]

theorem changeHead_nil {s : State} (h : s.zq.queue = []) (f : RackRecord → RackRecord) : changeHead f s = s := by
  rw [changeHead, h]

/-- A head that the change leaves as it is. -/
theorem changeHead_same {s : State} {head : RackRecord} {rest : List RackRecord} (h : s.zq.queue = head :: rest)
    {f : RackRecord → RackRecord} (same : f head = head) : changeHead f s = s := by
  rw [changeHead_cons h, same, ← h]

/-- Settles O11, by the role and the content of the head. -/
theorem buttonsChangeTheHead : Obligations.ButtonsChangeTheHead := by
  intro s ⟨awake, inUse⟩
  refine ⟨fun other => next_running awake (if_neg (by simp [other])),
    fun other => next_running awake (if_neg (by simp [other])), fun load => ?_, fun unload => ?_⟩
  · have press {t : State} (h : changeHead
        (fun r => if r.content = .soiled then r else filled (runningStation s.ss.running) r) s = t) :
        exec .rackFullPress s = .next (settle t) :=
      next_running awake ((if_pos (by simp [inUse, load])).trans (congrArg settle h))
    refine ⟨fun empty => press (changeHead_nil empty _), fun head rest queue => ⟨fun soiled => ?_, fun clean => ?_⟩⟩
    · exact press (changeHead_same queue (if_pos soiled))
    · rw [press (changeHead_cons queue _), if_neg clean]
      rfl
  · refine ⟨fun away => next_running awake (if_neg (by simp [away])), fun head rest queue blocked => ?_⟩
    have press {t : State} (h : pressEmpty s = t) : exec .rackEmptyPress s = .next (settle t) :=
      next_running awake ((if_pos (by simp [inUse, unload, headAtExit, queue, blocked])).trans (congrArg settle h))
    refine ⟨fun empty => ?_, fun full required dirty => ?_, fun full clean => ?_⟩
    · exact press (by rw [pressEmpty, queue]; exact if_pos empty)
    · rw [press (t := sendNotice .unloadRefused 0 (tagWord head.tag) (BitVec.ofNat 16 (contentCode head.content)) s)
        (by simp [pressEmpty, queue, full, required, dirty])]
      cases content : head.content <;> simp_all [tagWord, contentCode]
    · have applied : pressEmpty s = changeHead emptied s := by
        rcases clean with off | clean
        · simp [pressEmpty, queue, full, off]
        · simp [pressEmpty, queue, clean]
      rw [press (applied.trans (changeHead_cons queue _))]
      rfl

/-! # Calls answered and declined (R124) -/

/-- A broadcast of another sender reaches its owner (R148). -/
theorem exec_broadcast {c : Instr} {f : Frame} {s : State} (h : receivedFrame c = some f) (hearing : Hearing s)
    (other : FromOther f.source s) (kind : f.kind ≠ .reserved) (length : lengthAllowed f.kind f.body.length = true)
    (all : f.target = 0) (allowed : targetAllowed f.kind 0 = true) : exec c s = .next (deliver f (frameHeard s)) := by
  rw [EnquiryProofs.exec_received h]
  refine next_running hearing.1.1 ?_
  rw [receiveFrame_hearing hearing other kind length, takeGood_broadcast _ all allowed]

/-- A settled call leaves the list of a LOAD or a SPUR. -/
theorem takeSettled_station {st : Station} (h : st ≠ 0) (serial : Byte) (s : State) :
    takeSettled (st.setWidth 8) serial s = if role s = .load ∨ role s = .spur then
      settle { s with cl := { s.cl with
        calls := s.cl.calls.filter fun e => e.key != { station := st, serial := serial } } } else s := by
  simp [takeSettled, stationOfOctet_station h]

/-- Settles O40: both frames are broadcasts that bring CL the same key. -/
theorem answersAndDeclinesRemoveTheirCall : Obligations.AnswersAndDeclinesRemoveTheirCall := by
  intro source st serial tag s hearing other named key c member
  have taken : exec c s = .next (takeSettled (st.setWidth 8) serial (frameHeard s)) := by
    simp only [List.mem_cons, List.not_mem_nil, or_false] at member
    obtain rfl | rfl := member
    · exact (exec_broadcast rfl hearing other (by simp) rfl rfl rfl).trans rfl
    · exact (exec_broadcast rfl hearing other (by simp) rfl rfl rfl).trans rfl
  rw [taken, takeSettled_station named]
  refine ⟨fun keeps => if_pos keeps ▸ rfl, fun load spur => ?_, fun absent keeps => ?_⟩
  · rw [if_neg (by simp [load, spur])]
  · have all : s.cl.calls.filter (fun e => e.key != key) = s.cl.calls := by simpa [List.filter_eq_self] using absent
    rw [if_pos (by simpa using keeps)]
    exact congrArg (fun calls => Host.Outcome.next (settle { frameHeard s with cl := { s.cl with calls := calls } })) all

/-! # CLEAR (R16, R154) -/

/-- What a code leaves latched, written by its number. -/
theorem clearedFaults_eq (code : Byte) (f : Faults) :
    clearedFaults code f = match code.toNat with
      | 1 => { f with jam := none }
      | 2 => { f with exitStuck := none }
      | 3 => { f with overfull := none }
      | 4 => { f with duplicateZone := none }
      | 5 => { f with probe := none }
      | 255 => { jam := none, exitStuck := none, overfull := none, duplicateZone := none, probe := none }
      | _ => f := by
  have all : code = 255 ↔ code.toNat = 255 := by rw [← BitVec.toNat_inj]; rfl
  rw [clearedFaults, faultOfCode, if_congr all rfl rfl]
  generalize code.toNat = n
  by_cases every : n = 255
  · rw [if_pos every, every]
    rfl
  · rw [if_neg every]
    split
    · rename_i k named
      split at named <;> cases named <;> rfl
    · rename_i named
      split at named <;> simp_all

/-- Whether a node stays FAULTED, by the four kinds (R14). -/
theorem serviceFault_eq_false (f : Faults) :
    serviceFault f = false ↔ f.jam = none ∧ f.exitStuck = none ∧ f.overfull = none ∧ f.duplicateZone = none := by
  simp [serviceFault, and_assoc]

/-- Settles O41: the frame reaches SN, which unlatches by the code. -/
theorem clearUnlatchesFaults : Obligations.ClearUnlatchesFaults := by
  intro source target code s hearing other own low high f left free
  have taken : exec (.clear source target code) s = .next (takeClear code (frameHeard s)) :=
    congrArg Host.Outcome.next
      (received_own hearing other own (by simp) rfl (by simp [targetAllowed, isZone, low, high]))
  have cleared : clearedFaults code s.sn.faults = left := clearedFaults_eq code _
  have same : unlatch code (frameHeard s) = { frameHeard s with sn := { s.sn with
      faults := left, service := if s.sn.service = .faulted ∧ free then .recovering else s.sn.service } } := by
    have cleared : clearedFaults code s.sn.faults = left := clearedFaults_eq code _
    have ends : (s.sn.service = .faulted ∧ serviceFault left = false) ↔ (s.sn.service = .faulted ∧ free) :=
      and_congr_right fun _ => serviceFault_eq_false left
    have service : (if s.sn.service = .faulted && !serviceFault left then Service.recovering else s.sn.service)
        = if s.sn.service = .faulted ∧ free then .recovering else s.sn.service :=
      if_congr (by simpa using ends) rfl rfl
    rw [← service, ← cleared]
    rfl
  rw [taken, takeClear, same]

end Sys2Proof.EventProofs
end

section
/-! The halt terms: the e-stop, the start hold, STOP and GO (R17 to R20, R151, R152). -/

namespace Sys2Proof.EventProofs
open Sys2Proof.Machine
open Sys2Proof.LineProofs (next_running sendFrame_placing sendFrame_refused)
open Sys2Proof.StepProofs

/-! # A change of the halt terms

## What it leaves -/

/-- The start of a halt in the blocks (R18). -/
theorem haltBegins_blocks (s : State) :
    (haltBegins s).ex = stoppedExit s.ex ∧ (haltBegins s).dc.drive = .off ∧ (haltBegins s).dc.runOn = none
      ∧ (haltBegins s).zq.expected = s.zq.expected.map (fun e => { e with window := none })
      ∧ (haltBegins s).zq.queue.length = s.zq.queue.length ∧ (haltBegins s).sn = { s.sn with quiet := none } := by
  simp [haltBegins, setWindows, cancelQuiet, cancelRunOn, setDrive_off]

/-- The end of a halt restarts every arrival window (R19). -/
theorem haltEnds_expected (s : State) : (haltEnds s).zq.expected = s.zq.expected.map fun e =>
    { e with window := some { start := s.tb, duration := 1000 * itemNat s.ss.running .arrivalWindow } } := rfl

/-- A change of the halt terms leaves what a halt does not reach as the change leaves it. -/
@[simp] theorem changeTerms_rest (change : State → State) (s : State) :
    (changeTerms change s).tb = (change s).tb ∧ (changeTerms change s).su = (change s).su
      ∧ (changeTerms change s).ma = (change s).ma ∧ (changeTerms change s).ss = (change s).ss
      ∧ (changeTerms change s).pending = (change s).pending
      ∧ (changeTerms change s).zq.queue.length = (change s).zq.queue.length
      ∧ (changeTerms change s).zq.expected.map (·.record) = (change s).zq.expected.map (·.record)
      ∧ (changeTerms change s).sn.service = (change s).sn.service
      ∧ (changeTerms change s).sn.estop = (change s).sn.estop
      ∧ (changeTerms change s).sn.localTerm = (change s).sn.localTerm
      ∧ (changeTerms change s).sn.stopSet = (change s).sn.stopSet
      ∧ (changeTerms change s).sn.startHold = (change s).sn.startHold
      ∧ (changeTerms change s).sn.stopRepeat = (change s).sn.stopRepeat
      ∧ (changeTerms change s).sn.estopRelease = (change s).sn.estopRelease := by
  obtain ⟨-, -, begins⟩ | ⟨-, -, ends⟩ | ⟨-, stays⟩ := changeTerms_cases change s
  · obtain ⟨-, -, -, expected, queue, sn⟩ := haltBegins_blocks (change s)
    simp [begins, expected, queue, sn, Function.comp_def]
  · simp [ends, haltEnds, setWindows, Function.comp_def]
  · simp [stays]

@[simp] theorem changeTerms_halted (change : State → State) (s : State) :
    halted (changeTerms change s) = halted (change s) := by
  simp [halted]

theorem changeTerms_begins {change : State → State} {s : State} (after : halted (change s) = true)
    (before : halted s = false) : changeTerms change s = haltBegins (change s) := by
  simp [changeTerms, after, before]

theorem changeTerms_ends {change : State → State} {s : State} (after : halted (change s) = false)
    (before : halted s = true) : changeTerms change s = haltEnds (change s) := by
  simp [changeTerms, after, before]

theorem changeTerms_stays {change : State → State} {s : State} (same : halted (change s) = halted s) :
    changeTerms change s = change s := by
  simp [changeTerms, same]

/-- A halt that begins or ends has its RECALL placed behind the change. -/
theorem changeTerms_placed (change : State → State) (s : State) : Placings (change s).li (changeTerms change s).li := by
  obtain ⟨-, -, begins⟩ | ⟨-, -, ends⟩ | ⟨-, stays⟩ := changeTerms_cases change s
  · rw [begins]; exact haltBegins_placings _
  · rw [ends]; simpa using Placings.done
  · rw [stays]; exact .done

/-- A frame placed by a change of the halt terms is in the list when the event is over. -/
theorem settle_changeTerms_keeps {change : State → State} {s : State} {e : TxEntry} (placed : e ∈ (change s).li.tx)
    (kind : hasKind .state e = false) : e ∈ (settle (changeTerms change s)).li.tx :=
  ((changeTerms_placed change s).trans (settle_placings _)).keeps placed kind

/-- A frame joins a list with room. -/
theorem sendFrame_joins {f : Frame} {s : State} (configured : configured s = true) (room : s.li.tx.length < 8)
    (state : f.kind ≠ .state) (notice : f.kind ≠ .notice) : freshEntry f ∈ (sendFrame f s).li.tx := by
  rw [sendFrame_placing (.inl configured)]
  exact placeFrame_joins f state room (absurd · notice) ▸ List.mem_append_right _ (List.mem_singleton_self _)

/-! ## The tests at a halt -/

/-- A halted node offers nothing, so that the tests leave the exit, the queue and the binding (R48). -/
theorem settle_halted {s : State} (h : halted s = true) :
    (settle s).ex = s.ex ∧ (settle s).zq.queue = s.zq.queue ∧ (settle s).cl.offerCall = s.cl.offerCall := by
  have idle : offerReady (testNeed (testQuiet (formJudgement s))) = false := by
    have out : halted (testNeed (testQuiet (formJudgement s))) = true := by simpa [halted] using h
    simp [offerReady, out]
  unfold settle; split
  · simp [testOffer_idle idle]
  · simp

/-- A halted node in use has its drive off and its quiet timer stopped after the tests (R12, R59). -/
theorem settle_halted_stops {s : State} (inUse : configured s = true) (h : halted s = true) :
    (settle s).dc.drive = .off ∧ (settle s).sn.quiet = none := by
  have halts : halted (settle s) = true := by simpa using h
  constructor
  · have unwanted : driveWanted (settle s) = false := by simp [driveWanted, halts]
    cases drive : (settle s).dc.drive with
    | off => rfl
    | run => simpa [unwanted] using (settle_driveOk inUse).1 drive
  · have noisy : quietCondition (settle s) = false := by simp [quietCondition, halts]
    simpa [QuietOk, noisy] using settle_quietOk inUse

/-! # The e-stop (R17, R152) -/

/-- SN's own values do not bear on a frame of the node, but for the service state. -/
theorem sendFrame_sn (k : FrameKind) (target : Addr) (body : List Byte) {n : StopNotice} {s : State}
    (service : n.service = s.sn.service) :
    sendFrame (ownFrame { s with sn := n } k target body) { s with sn := n }
      = { sendFrame (ownFrame s k target body) s with sn := n } := by
  have same : configured { s with sn := n } = configured s := by simp [configured, service]
  rw [show ownFrame { s with sn := n } k target body = ownFrame s k target body from rfl]
  generalize ownFrame s k target body = f
  by_cases placed : configured s = true ∨ f.kind = .reply
  · rw [sendFrame_placing placed, sendFrame_placing (same ▸ placed)]
  · obtain ⟨bare, kind⟩ := not_or.1 placed
    have bare : configured s = false := by simpa using bare
    rw [sendFrame_refused bare kind, sendFrame_refused (same.trans bare) kind]

theorem pressEstop_eq (s : State) : pressEstop s = { sendFrame (ownFrame s .stop 0 []) s with
    sn := { s.sn with estop := true, localTerm := true, estopRelease := none,
                      stopRepeat := some { start := s.tb, duration := 1000 } } } := by
  simp only [pressEstop, sendStop]
  rw [sendFrame_sn _ _ _ (by rfl)]
  simp [startTimer, stopRepeatMs]

theorem releaseEstop_eq (s : State) : releaseEstop s = { sendFrame (ownFrame s .go 0 []) s with
    sn := { s.sn with localTerm := false, estopRelease := none } } := sendFrame_sn _ _ _ rfl

/-- Settles O14: a change of the halt terms keeps what the press or the release has set and placed. -/
theorem estopStopsAndReleasesTheLine : Obligations.EstopStopsAndReleasesTheLine := by
  intro s awake
  have placed {k : FrameKind} {change : State → State} (state : k ≠ .state) (notice : k ≠ .notice)
      (list : (change s).li = (sendFrame (ownFrame s k 0 []) s).li) (inUse : configured s = true)
      (room : s.li.tx.length < 8) : ∃ e ∈ (settle (changeTerms change s)).li.tx, e.frame = ownFrame s k 0 [] :=
    ⟨_, settle_changeTerms_keeps (list ▸ sendFrame_joins inUse room state notice) (by simpa [hasKind, ownFrame]), rfl⟩
  refine ⟨⟨_, next_running awake rfl, by simp [halted, pressEstop_eq], ?_⟩,
    fun active => next_running awake (if_pos active),
    fun inactive => next_running awake (if_neg (by simp [inactive])),
    fun m running due => ⟨_, next_running awake (onExpiry_due running due _), ?_⟩, fun m running due => ?_⟩
  · simp only [settle_rest, changeTerms_rest, pressEstop_eq, true_and]
    exact placed (by simp) (by simp) (by rw [pressEstop_eq])
  · simp only [settle_rest, changeTerms_rest, releaseEstop_eq, true_and]
    exact placed (by simp) (by simp) (by rw [releaseEstop_eq])
  · refine next_running awake ((onExpiry_due running due _).trans ?_)
    simp [sendStop, startTimer, stopRepeatMs]

/-! # The start hold and the quiet timer (R12, R19, R20, R95) -/

/-- The start hold's term becomes false (R20). -/
def endStartHold (s : State) : State := { s with sn := { s.sn with startHold := none } }

/-- Settles O16: the start hold is a halt term, so that its end can end a halt and can begin none. -/
theorem startHoldAndQuietTimeEnd : Obligations.StartHoldAndQuietTimeEnd := by
  constructor
  · intro m s ⟨awake, inUse⟩ holds due
    have was : halted s = true := by simp [halted, holds]
    have still : configured (changeTerms endStartHold s) = true := by simpa [endStartHold, configured] using inUse
    refine ⟨settle (startSampling (changeTerms endStartHold s)),
      next_running awake ((onExpiry_due holds due _).trans (congrArg settle (if_pos still))), ?_⟩
    have windows (runs : halted (endStartHold s) = false) :
        (changeTerms endStartHold s).zq.expected = s.zq.expected.map fun e =>
          { e with window := some { start := s.tb, duration := 1000 * itemNat s.ss.running .arrivalWindow } } := by
      rw [changeTerms_ends runs was]
      rfl
    have unhalted : halted (settle (startSampling (changeTerms endStartHold s))) = halted (endStartHold s) := by
      rw [← changeTerms_halted]
      simp [halted, startSampling]
    refine ⟨?_, ?_, ?_, ?_, ?_, ?_, ?_⟩
    · simp [startSampling, endStartHold]
    · simp [startSampling, endStartHold]
    · simp [startSampling, endStartHold, startTimer]
    · rw [unhalted]
      simp [halted, endStartHold]
    · rw [unhalted]
      intro runs e member
      simp only [settle_rest, startSampling, windows runs] at member
      obtain ⟨x, -, rfl⟩ := List.mem_map.1 member
      rfl
    · simp [startSampling, endStartHold]
    · simp [startSampling, endStartHold]
  · intro m s awake recovering runs due
    exact next_running awake ((if_pos recovering).trans (onExpiry_due runs due _))

/-! # STOP and GO (R151) -/

/-- The addresses that can stand in the stop set: the zones, and above them the two panels. -/
theorem station_cases {a : Addr} (low : a ≠ 0) (high : a.toNat ≤ 62) :
    isStation a = true ∧ isPanel a = !decide (a.toNat ≤ 60) ∧ isZone a = decide (a.toNat ≤ 60) := by
  revert low high; revert a; decide

/-- The stop set with a source added (R151). -/
theorem addStop_station {source : Addr} (low : source ≠ 0) (high : source.toNat ≤ 62) (s : State) :
    addStop source s = { s with sn := { s.sn with
      stopSet := if source ∈ s.sn.stopSet then s.sn.stopSet else s.sn.stopSet ++ [source] } } := by
  by_cases held : source ∈ s.sn.stopSet <;> simp [addStop, (station_cases low high).1, held]

/-- A STOP leaves its source in the stop set, so that the node is halted (R17). -/
theorem addStop_halted {source : Addr} (low : source ≠ 0) (high : source.toNat ≤ 62) (s : State) :
    halted (addStop source s) = true := by
  by_cases held : source ∈ s.sn.stopSet
  · simp [addStop_station low high, halted, held, List.ne_nil_of_mem held]
  · simp [addStop_station low high, halted, held]

/-- The stop set after a GO (R151). -/
theorem removeStop_station {source : Addr} (low : source ≠ 0) (high : source.toNat ≤ 62) (s : State) :
    removeStop source s = { s with sn := { s.sn with
      stopSet := if source.toNat ≤ 60 then s.sn.stopSet.filter (· != source) else [] } } := by
  obtain ⟨-, panel, zone⟩ := station_cases low high
  by_cases fromZone : source.toNat ≤ 60 <;> simp [removeStop, panel, zone, fromZone]

/-- A change that changes nothing is no change of the halt terms. -/
theorem changeTerms_same {change : State → State} {s : State} (h : change s = s) : changeTerms change s = s := by
  simp [changeTerms, h]

theorem unbindOffer_queue {s : State} (bound : s.cl.offerCall ≠ none) {head : RackRecord} {rest : List RackRecord}
    (queue : s.zq.queue = head :: rest) : (unbindOffer false s).zq.queue = { head with bound := none } :: rest := by
  have isBound : s.cl.offerCall.isSome = true := Option.isSome_iff_ne_none.2 bound
  simp [unbindOffer, isBound, changeHead_cons queue, unbound]

/-- A halt that begins with an offer on its way has its RECALL placed and its binding undone (R18, R58, R138). -/
theorem haltBegins_recalls {s : State} (inUse : configured s = true) {o : Outlet} {z : Addr} {n : Byte}
    (moving : s.ex.exit = .switching ∨ s.ex.exit = .releasing) (outlet : s.ex.outlet = some o)
    (zone : outletZone s.ss.running o = some z) (serial : s.ex.serial = some n) :
    (haltBegins s).li = (sendFrame (ownFrame s .recall z [n]) s).li ∧ (haltBegins s).cl.offerCall = none
      ∧ (s.cl.offerCall ≠ none → ∀ head rest, s.zq.queue = head :: rest →
          (haltBegins s).zq.queue = { head with bound := none } :: rest) := by
  have recalls : stopExit (cancelRunOn (setDrive .off s)) = recallOffer false (cancelRunOn (setDrive .off s)) := by
    obtain switching | releasing := moving
    · simp [stopExit, switching]
    · simp [stopExit, releasing]
  have still : configured (cancelRunOn (setDrive .off s)) = true := by simpa [configured] using inUse
  have placed := ExitProofs.recallOffer_eq (s := cancelRunOn (setDrive .off s)) (by simpa using outlet)
    (by simpa using zone) (by simpa using serial) false
  rw [sendFrame_placing (.inl still)] at placed
  refine ⟨?_, ?_, fun bound head rest queue => ?_⟩
  · rw [sendFrame_placing (.inl inUse)]
    simp [haltBegins, recalls, placed, ownFrame, sendAddr, ownZone]
  · simp [haltBegins, recalls]
  · have left := unbindOffer_queue (s := cancelRunOn (setDrive .off s)) (by simpa using bound) (by simpa using queue)
    simp [haltBegins, recalls, setWindows, left]

/-- Settles O32: a halt that begins stops the node, and the tests leave a halted node's exit and queue. -/
theorem stopAndGoChangeTheStopSet : Obligations.StopAndGoChangeTheStopSet := by
  intro source s hearing other
  obtain ⟨⟨-, inUse⟩, -⟩ := id hearing
  have stop : exec (.stopReceived source) s = .next (settle (changeTerms (addStop source) (frameHeard s))) :=
    (exec_broadcast rfl hearing other (by simp) rfl rfl rfl).trans rfl
  have go : exec (.goReceived source) s = .next (settle (changeTerms (removeStop source) (frameHeard s))) :=
    (exec_broadcast rfl hearing other (by simp) rfl rfl rfl).trans rfl
  refine ⟨fun high => ⟨_, stop, ?_⟩, fun high => ⟨_, go, ?_⟩, ?_⟩
  · have halts := addStop_halted other.1 high (frameHeard s)
    have halts' := (changeTerms_halted (addStop source) (frameHeard s)).trans halts
    have added := addStop_station other.1 high (frameHeard s)
    obtain ⟨ex, queue, offerCall⟩ := settle_halted halts'
    have inUse' : configured (changeTerms (addStop source) (frameHeard s)) = true := by
      simpa [configured, added] using inUse
    obtain ⟨drive, quiet⟩ := settle_halted_stops inUse' halts'
    have begins (runs : halted s = false) : changeTerms (addStop source) (frameHeard s) = _ :=
      changeTerms_begins halts runs
    have stays (still : halted s = true) : changeTerms (addStop source) (frameHeard s) = _ :=
      changeTerms_stays (halts.trans still.symm)
    refine ⟨by simp [added], by simpa using halts, by simp [added], by simp [added], fun runs => ?_, fun still => ?_,
      by simp [added], fun runs moving o z n outlet zone serial => ?_, by simp [added], by simp [added], by simp [added],
      by simp [added], by simp [added]⟩
    · obtain ⟨closed, -, runOn, windows, -⟩ := haltBegins_blocks (addStop source (frameHeard s))
      refine ⟨drive, ?_, quiet, ?_, fun moving => ?_⟩
      · simp [begins runs, runOn]
      · simp only [settle_rest, begins runs, windows]
        simp [added]
      · rw [ex, begins runs, closed, added]
        simp [stoppedExit, moving]
    · rw [ex, stays still, added]
      simp
    · obtain ⟨list, unbinds, left⟩ := haltBegins_recalls (s := addStop source (frameHeard s))
        (by simpa [configured, added] using inUse) (by simpa [added] using moving) (by simpa [added] using outlet)
        (by simpa [added] using zone) (by simpa [added] using serial)
      refine ⟨fun room => ?_, fun bound => ⟨?_, fun head rest records => ?_⟩⟩
      · refine ⟨freshEntry (ownFrame (addStop source (frameHeard s)) .recall z [n]), (settle_placings _).keeps ?_ rfl,
          by rw [added]; rfl⟩
        rw [begins runs, list]
        exact sendFrame_joins (by simpa [configured, added] using inUse) (by simpa [added] using room)
          (by simp [ownFrame]) (by simp [ownFrame])
      · rw [offerCall, begins runs, unbinds]
      · rw [queue, begins runs]
        exact left (by simpa [added] using bound) head rest (by simpa [added] using records)
  · have removed := removeStop_station other.1 high (frameHeard s)
    refine ⟨by simp [removed], by simp [removed], by simp [removed], by simp [removed], by simp [halted, removed],
      fun was runs => ?_, fun same => ?_, by simp [removed], by simp [removed], by simp [removed],
      by simp [removed], by simp [removed]⟩
    · simp only [settle_conditions, changeTerms_halted] at runs
      simp only [settle_rest, changeTerms_ends runs was, haltEnds_expected]
      simp [removed]
    · simp only [settle_conditions, changeTerms_halted] at same
      simp only [settle_rest, changeTerms_stays same]
      simp [removed]
  · rintro rfl
    rw [stop, go, changeTerms_same (by rfl), changeTerms_same (by rfl)]
    exact ⟨rfl, rfl⟩

end Sys2Proof.EventProofs
end

section
/-! Detections of a fault: OVERFULL at an inlet, JAM at a sample, DUPLICATE_ZONE at a frame (R14, R40, R62, R149). -/

namespace Sys2Proof.EventProofs
open Sys2Proof.Machine
open Sys2Proof.LineProofs (next_running)
open Sys2Proof.StepProofs
open Sys2Proof.RackProofs (exec_entryEyeBlocked)

/-! # A detection (R14, R153) -/

/-- A kind that is latched already is detected to no effect. -/
theorem latchFault_latched {k : FaultKind} {s : State} {l : LatchedFault} (h : latched? s.sn.faults k = some l)
    (d : Byte) (t v : Word16) : latchFault k d t v s = s := by
  simp [latchFault, h]

/-- A detection by a node in service makes it FAULTED, with the drive and its timers stopped (R14). -/
theorem latchFault_enters {k : FaultKind} {s : State} (h : latched? s.sn.faults k = none) (kind : k ≠ .probe)
    (service : inService s = true) (d : Byte) (t v : Word16) :
    (latchFault k d t v s).sn.service = .faulted ∧ (latchFault k d t v s).sn.quiet = none
      ∧ (latchFault k d t v s).dc
        = { s.dc with drive := .off, runOn := none, high := if s.dc.drive = .run then 0 else s.dc.high } := by
  obtain same | ⟨-, -, -, enters⟩ | ⟨-, stays, -⟩ := latchFault_cases k d t v s
  · have faults := WashProofs.latchFault_faults k d t v s
    rw [same, h, if_neg (by simp)] at faults
    rw [faults] at h
    cases k <;> simp [latched?, setLatched] at h
  · rw [enters]
    refine ⟨by simp [WashProofs.enterFaulted_sn], by simp [WashProofs.enterFaulted_sn], ?_⟩
    cases drive : s.dc.drive <;> simp [enterFaulted, withFault, cancelRunOn, setDrive, drive]
  · simp [service, kind] at stays

/-- Out of service, and for PROBE, a detection leaves the service state, the quiet timer and the drive (R14, R99). -/
theorem latchFault_remains {k : FaultKind} {s : State} (h : k = .probe ∨ inService s = false) (d : Byte)
    (t v : Word16) :
    (latchFault k d t v s).sn.service = s.sn.service ∧ (latchFault k d t v s).sn.quiet = s.sn.quiet
      ∧ (latchFault k d t v s).dc = s.dc := by
  obtain same | ⟨-, kind, service, -⟩ | ⟨-, -, stays⟩ := latchFault_cases k d t v s
  · rw [same]; exact ⟨rfl, rfl, rfl⟩
  · simp [service, kind] at h
  · rw [stays]; simp [withFault]

/-- A FAULTED node in use is stopped after the tests of an event (R12, R59). -/
theorem settle_faulted_stops {s : State} (h : s.sn.service = .faulted) :
    (settle s).dc.drive = .off ∧ (settle s).sn.quiet = none := by
  have inUse : configured s = true := by simp [configured, h]
  refine ⟨ExitProofs.settle_drive_off inUse (by simp [inService, h]), ?_⟩
  have faulted : (settle s).sn.service = .faulted := by simpa using h
  have unquiet : (settle s).sn.quiet.isSome = false := by
    rw [settle_quietOk inUse, faulted]
    rfl
  simpa using unquiet

/-! # OVERFULL (R40, R41) -/

theorem matchingEntry_congr {s t : State} (setup : t.ss = s.ss) (expected : t.zq.expected = s.zq.expected)
    (inlet : Inlet) : matchingEntry inlet t = matchingEntry inlet s := by
  rw [matchingEntry, matchingEntry, setup, expected]

/-- The oldest entry from the inlet's upstream zone matches (R31). -/
theorem matchingEntry_oldest {s : State} {inlet : Inlet} {z : Addr} {before after : List ExpectedEntry}
    {e : ExpectedEntry} (zone : inletZone s.ss.running inlet = some z) (expected : s.zq.expected = before ++ e :: after)
    (sender : e.upstream = z) (older : ∀ x ∈ before, x.upstream ≠ z) : matchingEntry inlet s = some before.length := by
  rw [matchingEntry, zone, expected]
  exact Laws.findIdx?_middle after (by simpa using older) (by simpa using sender)

theorem matchingEntry_none {s : State} {inlet : Inlet}
    (h : ∀ z, inletZone s.ss.running inlet = some z → ∀ x ∈ s.zq.expected, x.upstream ≠ z) :
    matchingEntry inlet s = none := by
  rw [matchingEntry]
  cases zone : inletZone s.ss.running inlet with
  | none => rfl
  | some z => exact Laws.findIdx?_absent (by simpa using h z zone)

/-- The oldest matching entry of an inlet is lost, if there is one. -/
def loseMatching (inlet : Inlet) (s : State) : State :=
  match matchingEntry inlet s with
  | none => s
  | some n => loseExpected n s

/-- A rack at a full queue is a detection and then a loss (R40). -/
theorem overfull_eq (inlet : Inlet) (s : State) : overfull inlet s
    = loseMatching inlet (latchFault .overfull (inletDetail inlet s) 0 (inletValue inlet) s) := rfl

theorem loseMatching_blocks (inlet : Inlet) (s : State) :
    (loseMatching inlet s).sn = { s.sn with counts := (loseMatching inlet s).sn.counts }
      ∧ (loseMatching inlet s).sn.counts.strays = s.sn.counts.strays
      ∧ (loseMatching inlet s).zq.queue = s.zq.queue
      ∧ (s.zq.queue ≠ [] → (loseMatching inlet s).dc = s.dc) := by
  unfold loseMatching; split
  · exact ⟨rfl, rfl, rfl, fun _ => rfl⟩
  · rename_i n _
    refine ⟨loseExpected_sn n s, ?_, by simp, fun held => ?_⟩
    · unfold loseExpected; split <;> simp
    · unfold loseExpected; split
      · rfl
      · simp [dropExpected, startRunOnIfEmpty, held]

theorem loseMatching_unmatched {inlet : Inlet} {s : State} (h : matchingEntry inlet s = none) :
    loseMatching inlet s = s := by
  rw [loseMatching, h]

theorem loseMatching_matched {inlet : Inlet} {s : State} {before after : List ExpectedEntry} {e : ExpectedEntry}
    (h : matchingEntry inlet s = some before.length) (expected : s.zq.expected = before ++ e :: after) :
    (loseMatching inlet s).zq.expected = before ++ after
      ∧ (loseMatching inlet s).sn.counts.lost = s.sn.counts.lost + 1 := by
  have entry : s.zq.expected[before.length]? = some e := by rw [expected]; exact Laws.getElem?_middle ..
  rw [loseMatching, h]
  constructor
  · rw [loseExpected_zq, expected]
    exact Laws.eraseIdx_middle ..
  · show (loseExpected before.length s).sn.counts.lost = _
    rw [RackProofs.loseExpected_eq entry]
    simp

/-- Settles O8: the detection leaves the records and the counts, and the loss of the entry the fault. -/
theorem rackAtAFullQueueIsOverfull : Obligations.RackAtAFullQueueIsOverfull := by
  intro inlet s inUse takes full
  obtain ⟨tb, -, sn, ss, queue, expected⟩ := RackProofs.setEntryEye_frame inlet true s
  have seen := exec_entryEyeBlocked inUse takes
  generalize setEntryEye inlet true s = eyes at tb sn ss queue expected seen
  rw [rackAtInlet, if_pos (queue ▸ full)] at seen
  have detail : inletDetail inlet eyes = ((inletZone s.ss.running inlet).map (·.setWidth 8)).getD 0 := by
    rw [inletDetail, ss]; rfl
  have value : inletValue inlet = if inlet = .one then 1 else 2 := by cases inlet <;> rfl
  rw [overfull_eq, detail, value] at seen
  let u := latchFault .overfull (((inletZone s.ss.running inlet).map (·.setWidth 8)).getD 0) 0
    (if inlet = .one then 1 else 2) eyes
  have unbinds : WashProofs.OnlyUnbinds eyes u := WashProofs.latchFault_onlyUnbinds ..
  have faults : u.sn.faults = _ := WashProofs.latchFault_faults ..
  have records : u.zq.queue.length = s.zq.queue.length := by
    have := congrArg List.length unbinds.records
    simpa [queue] using this
  have held : u.zq.queue ≠ [] := by
    rw [← List.length_pos_iff]
    omega
  have matching : matchingEntry inlet u = matchingEntry inlet s :=
    matchingEntry_congr (by simp [u, ss]) (by rw [unbinds.expected, expected]) inlet
  obtain ⟨sameSn, strays, sameQueue, sameDc⟩ := loseMatching_blocks inlet u
  have service : (loseMatching inlet u).sn.service = u.sn.service := by rw [sameSn]
  have faults' : (settle (loseMatching inlet u)).sn.faults = u.sn.faults := by simp only [settle_rest]; rw [sameSn]
  refine ⟨settle (loseMatching inlet u), seen, fun fresh => ⟨?_, fun working => ?_, fun out => ?_⟩, fun latched => ?_,
    ?_, ?_, fun z before e after zone entries sender older => ?_, fun unmatched => ?_⟩
  · rw [faults', faults, sn, tb, if_neg (by simp [latched?, fresh])]
    rfl
  · obtain ⟨faulted, -, dc⟩ := latchFault_enters (k := .overfull) (s := eyes) (by simpa [latched?, sn] using fresh)
      (by simp) (by simpa [inService, sn] using working) (((inletZone s.ss.running inlet).map (·.setWidth 8)).getD 0) 0
      (if inlet = .one then 1 else 2)
    obtain ⟨drive, quiet⟩ := settle_faulted_stops (service.trans faulted)
    refine ⟨by simpa using service.trans faulted, drive, ?_, quiet⟩
    simp only [settle_rest]
    rw [sameDc held, dc]
  · have remains := (latchFault_remains (k := .overfull) (s := eyes) (.inr (by simpa [inService, sn] using out))
      (((inletZone s.ss.running inlet).map (·.setWidth 8)).getD 0) 0 (if inlet = .one then 1 else 2)).1
    simp only [settle_rest, service]
    exact remains.trans (by rw [sn])
  · obtain ⟨l, latched⟩ := Option.ne_none_iff_exists'.1 latched
    have same : u = eyes := latchFault_latched (l := l) (by rw [sn]; exact latched) ..
    exact ⟨by rw [faults', same, sn], by simp only [settle_rest]; rw [service, same, sn]⟩
  · simp [sameQueue, records]
  · rw [settle_counts]
    simp [strays, unbinds.counts, sn]
  · obtain ⟨left, lost⟩ := loseMatching_matched (matching.trans (matchingEntry_oldest zone entries sender older))
      (by rw [unbinds.expected, expected, entries])
    exact ⟨by simpa using left, by rw [RackProofs.settle_lost, lost, unbinds.counts, sn]⟩
  · rw [loseMatching_unmatched (matching.trans (matchingEntry_none unmatched)), RackProofs.settle_lost,
      unbinds.counts, sn]
    exact ⟨by simp [unbinds.expected, expected], rfl⟩

/-! # JAM (R62) -/

/-- With the drive OFF or jam checking off a current is not judged (R62). -/
theorem judgeCurrent_idle {s : State} (h : s.dc.drive = .off ∨ itemNat s.ss.running .iJam = 0) (n : Nat) :
    judgeCurrent n s = s := by
  simp only [judgeCurrent]
  exact if_pos (by simpa using h)

/-- A current that is judged: two are passed over, and the third high one in a row is a detection (R62). -/
theorem judgeCurrent_judging {s : State} (run : s.dc.drive = .run) (on : itemNat s.ss.running .iJam ≠ 0) (n : Nat) :
    judgeCurrent n s = if 0 < s.dc.skip then { s with dc := { s.dc with skip := s.dc.skip - 1 } }
      else if n < itemNat s.ss.running .iJam then { s with dc := { s.dc with high := 0 } }
      else if s.dc.high < 2 then { s with dc := { s.dc with high := s.dc.high + 1 } }
      else latchFault .jam 0 0 (BitVec.ofNat 16 n) { s with dc := { s.dc with high := 0 } } := by
  have third : s.dc.high + 1 < 3 ↔ s.dc.high < 2 := by omega
  simp only [judgeCurrent, third]
  exact if_neg (by simp [run, on])

/-- The probe result of a sample has no bearing on the drive, the service state and JAM (R98, R99). -/
theorem takeSample_jam (probe current : AdcCode) (s : State) :
    (takeSample probe current s).dc = (WashProofs.converted probe current s).dc
      ∧ (takeSample probe current s).sn.service = (WashProofs.converted probe current s).sn.service
      ∧ (takeSample probe current s).sn.faults.jam = (WashProofs.converted probe current s).sn.faults.jam := by
  have faulted (u : State) : (faultedSample probe u).dc = u.dc ∧ (faultedSample probe u).sn.service = u.sn.service
      ∧ (faultedSample probe u).sn.faults.jam = u.sn.faults.jam := by
    simp only [faultedSample]; split
    · obtain ⟨service, -, dc⟩ := latchFault_remains (s := setFaultCount (min (u.su.faultCount + 1) 3)
        (changeQueue (changePending markFault) u)) (.inl (rfl : FaultKind.probe = .probe)) 0 0 (probe.setWidth 16)
      rw [dc, service, WashProofs.latchFault_faults]
      refine ⟨rfl, rfl, ?_⟩
      split <;> rfl
    · exact ⟨rfl, rfl, rfl⟩
  rw [WashProofs.takeSample_eq]; split
  · split
    · exact faulted _
    · rw [WashProofs.goodSample_eq]; exact ⟨rfl, rfl, rfl⟩
  · exact ⟨rfl, rfl, rfl⟩

/-- Settles O21: the judgement of the current is DC's alone, and the probe result comes after it. -/
theorem currentIsHandedToTheJamCheck : Obligations.CurrentIsHandedToTheJamCheck := by
  intro probe current m s awake period due iSpan iJam i
  have value : currentOf iSpan current = i := by
    simp only [currentOf, WashProofs.railCode_iff, i]
  have su := WashProofs.takeSample_su probe current s
  obtain ⟨dc, service, jam⟩ := takeSample_jam probe current s
  have judged : WashProofs.converted probe current s = judgeCurrent i (convert probe current s) := by
    rw [WashProofs.converted, value]
  have judging {d : DriveController} (run : s.dc.drive = .run) (on : iJam ≠ 0)
      (h : (if 0 < s.dc.skip then { s.dc with skip := s.dc.skip - 1 }
        else if i < iJam then { s.dc with high := 0 }
        else if s.dc.high < 2 then { s.dc with high := s.dc.high + 1 }
        else (latchFault .jam 0 0 (BitVec.ofNat 16 i)
          { convert probe current s with dc := { s.dc with high := 0 } }).dc) = d) :
      (takeSample probe current s).dc = d := by
    rw [dc, judged, judgeCurrent_judging (s := convert probe current s) run on, ← h]
    simp only [apply_ite State.dc]
    rfl
  refine ⟨_, WashProofs.exec_sampleCompletion awake period due probe current, ?_, ?_, fun off => ?_,
    fun run on => ⟨fun passed => ?_, fun judges low => ?_, fun judges high few => ?_,
      fun judges high third fresh working => ?_⟩⟩
  · rw [su, ← value]; rfl
  · rw [su]
    simp only [WashProofs.railCode_iff]
  · rw [dc, judged, judgeCurrent_idle (s := convert probe current s) off]
    rfl
  · exact judging run on ((if_pos passed).trans rfl)
  · exact judging run on (((if_neg (Nat.not_lt.2 judges.le)).trans (if_pos low)).trans rfl)
  · exact judging run on (((if_neg (Nat.not_lt.2 judges.le)).trans
      ((if_neg (Nat.not_lt.2 high)).trans (if_pos few))).trans rfl)
  · have third : judgeCurrent i (convert probe current s) = latchFault .jam 0 0 (BitVec.ofNat 16 i)
        { convert probe current s with dc := { s.dc with high := 0 } } :=
      (judgeCurrent_judging (s := convert probe current s) run on i).trans ((if_neg (Nat.not_lt.2 judges.le)).trans
        ((if_neg (Nat.not_lt.2 high)).trans (if_neg (Nat.not_lt.2 third))))
    obtain ⟨faulted, -, stopped⟩ := latchFault_enters
      (s := { convert probe current s with dc := { s.dc with high := 0 } }) (k := .jam) fresh (by simp) working 0 0
      (BitVec.ofNat 16 i)
    rw [dc, service, jam, judged, third]
    refine ⟨by rw [stopped]; simp [run, judges], faulted, ?_⟩
    rw [WashProofs.latchFault_faults, if_neg (by simpa [latched?, convert] using fresh)]
    rfl

end Sys2Proof.EventProofs
end

section
/-! Reception: the frames a node does not take, and frames that bear its own number (R148 to R150). -/

namespace Sys2Proof.EventProofs
open Sys2Proof.Machine
open Sys2Proof.LineProofs (next_running)
open Sys2Proof.StepProofs

/-! # Frames the node does not take (R10, R144, R148, R150) -/

theorem takeGood_disallowed {f : Frame} {s : State} (h : targetAllowed f.kind f.target = false) :
    takeGood f s = if ownZone s = some f.target then driveSlot .hold s else s := by
  rw [takeGood, if_pos (by simp [h])]
  exact if_congr (by simp) rfl rfl

/-- A setup frame outside the setup window is not taken (R158, R160). -/
theorem deliverAtSetup_shut {f : Frame} {s : State} (h : s.ss.window = none) : deliverAtSetup f s = s := by
  simp [deliverAtSetup, h]

/-- A target that is neither everyone, nor the node, nor the setup address in its window. -/
theorem takeGood_elsewhere {f : Frame} {s : State} (allowed : targetAllowed f.kind f.target = true) (all : f.target ≠ 0)
    (own : ownZone s ≠ some f.target) (setup : f.target = 63 → s.ss.window = none) : takeGood f s = s := by
  rw [takeGood, if_neg (by simp [allowed]), if_neg (by simpa [own] using all)]
  by_cases h : f.target = setupAddr
  · rw [if_pos h, deliverAtSetup_shut (setup h)]
  · exact if_neg h

/-- No kind's owner takes a NOTICE or a REPLY (R144). -/
theorem takeGood_unowned {f : Frame} {s : State} (h : f.kind = .notice ∨ f.kind = .reply)
    (allowed : targetAllowed f.kind f.target = true) : takeGood f s = s := by
  have ignored : deliver f s = s := by
    obtain h | h := h <;> simp [deliver, h]
  rw [takeGood, if_neg (by simp [allowed]), deliverAtSetup, ignored]
  simp

/-- The tests that come before the target of a frame (R148). -/
theorem receiveFrame_malformed {f : Frame} {s : State} (hears : s.li.awaitRelease = false)
    (length : lengthAllowed f.kind f.body.length = false) : receiveFrame f s = countReceiveError (frameHeard s) := by
  simp [receiveFrame, hears, length]

theorem receiveFrame_reserved {f : Frame} {s : State} (hears : s.li.awaitRelease = false) (kind : f.kind = .reserved) :
    receiveFrame f s = frameHeard s := by
  simp [receiveFrame, hears, kind, lengthAllowed, acceptGood]

/-- Settles O30, by the tests of reception in their order. -/
theorem framesNotForTheNodeHaveNoEffect : Obligations.FramesNotForTheNodeHaveNoEffect := by
  intro c f s received awake otherwise
  have heard {t : State} (h : receiveFrame f s = t) : exec c s = .next t := by
    rw [EnquiryProofs.exec_received received, next_running awake h]
  refine ⟨fun waits => heard (receiveFrame_waiting waits f), fun hears => ⟨fun length => heard ?_, fun kind => heard ?_,
    fun kind length => ⟨fun inUse other => ?_, fun bare unfit => heard ?_⟩⟩, fun hearing => ?_⟩
  · rw [receiveFrame_malformed hears length]
    rfl
  · exact receiveFrame_reserved hears kind
  · have taken := receiveFrame_hearing (f := f) ⟨⟨awake, inUse⟩, hears⟩ other kind length
    refine ⟨fun wrong => heard ?_, fun allowed elsewhere => heard ?_, fun notice all => heard ?_⟩
    · rw [taken, takeGood_disallowed wrong]
      rfl
    · obtain ⟨all, own, setup⟩ := elsewhere
      exact taken.trans (takeGood_elsewhere (s := frameHeard s) allowed all own setup)
    · rw [taken, takeGood_unowned (.inl notice) (by rw [notice, all]; rfl)]
  · rw [receiveFrame_unconfigured bare hears kind length]
    by_cases setup : (targetAllowed f.kind f.target && f.target == setupAddr) = true
    · rw [if_pos setup]
      simp only [Bool.and_eq_true, beq_iff_eq] at setup
      obtain ⟨allowed, target⟩ := setup
      obtain wrong | elsewhere | shut := unfit
      · simp [allowed] at wrong
      · exact absurd target elsewhere
      · exact deliverAtSetup_shut (s := frameHeard s) shut
    · exact if_neg setup
  · intro source target kind detail tag value body other
    refine ⟨?_, fun length own => ?_⟩
    · exact (exec_broadcast rfl hearing other (by simp) rfl rfl rfl).trans rfl
    · let reply : Frame := { kind := .reply, source := source, target := target, body := body }
      have taken : exec (.replyReceived source target body) s = .next (takeGood reply (frameHeard s)) := by
        rw [EnquiryProofs.exec_received (f := reply) rfl]
        exact next_running awake
          (receiveFrame_hearing hearing other (by simp [reply]) (by simp [reply, lengthAllowed, length]))
      rw [taken]
      cases allowed : targetAllowed reply.kind reply.target with
      | true => rw [takeGood_unowned (.inr rfl) allowed]
      | false =>
        exact congrArg Host.Outcome.next ((takeGood_disallowed (s := frameHeard s) allowed).trans (if_neg own))

/-! # The node's own number (R14, R149)

A frame is taken after its test for the node's own number. Of the owners, CLEAR's alone unlatches a fault and an ASK's
alone can reset the node. -/

/-- `t` has the faults, the service state, the store and as many records and lost racks as `s`, and a FAULTED
node that is stopped stays so. -/
structure FaultsStand (s t : State) : Prop where
  faults : t.sn.faults = s.sn.faults
  service : t.sn.service = s.sn.service
  records : t.zq.queue.length = s.zq.queue.length
  lost : t.sn.counts.lost = s.sn.counts.lost
  store : t.ss.store = s.ss.store
  stopped : s.sn.service = .faulted → s.dc.drive = .off ∧ s.sn.quiet = none → t.dc.drive = .off ∧ t.sn.quiet = none

theorem FaultsStand.refl (s : State) : FaultsStand s s := ⟨rfl, rfl, rfl, rfl, rfl, fun _ => id⟩

theorem FaultsStand.trans {s t u : State} (h : FaultsStand s t) (h' : FaultsStand t u) : FaultsStand s u where
  faults := h'.faults.trans h.faults
  service := h'.service.trans h.service
  records := h'.records.trans h.records
  lost := h'.lost.trans h.lost
  store := h'.store.trans h.store
  stopped faulted stop := h'.stopped (h.service.trans faulted) (h.stopped faulted stop)

/-- SN, DC and the number of records stay, and so does the store. -/
theorem FaultsStand.of_frame {s t : State} (sn : t.sn = s.sn) (dc : t.dc.drive = s.dc.drive)
    (records : t.zq.queue.length = s.zq.queue.length) (store : t.ss.store = s.ss.store) : FaultsStand s t :=
  ⟨by rw [sn], by rw [sn], records, by rw [sn], store, fun _ => by rw [dc, sn]; exact id⟩

theorem settle_faultsStand (s : State) : FaultsStand s (settle s) where
  faults := by simp
  service := by simp
  records := by simp
  lost := RackProofs.settle_lost s
  store := by simp
  stopped faulted _ := settle_faulted_stops faulted

theorem FaultsStand.settled {s t : State} (h : FaultsStand s t) : FaultsStand s (settle t) :=
  h.trans (settle_faultsStand t)

theorem driveSlot_faultsStand (b : Slot) (s : State) : FaultsStand s (driveSlot b s) := .of_frame rfl rfl rfl rfl

theorem sendFrame_faultsStand (f : Frame) (s : State) : FaultsStand s (sendFrame f s) :=
  .of_frame (by simp) (by simp) (by simp) (by simp)

/-- A change of the halt terms that changes no more. -/
theorem changeTerms_faultsStand {change : State → State} {s : State} (h : FaultsStand s (change s)) :
    FaultsStand s (changeTerms change s) := by
  refine h.trans ?_
  obtain ⟨-, -, begins⟩ | ⟨-, -, ends⟩ | ⟨-, stays⟩ := changeTerms_cases change s
  · obtain ⟨-, drive, -, -, queue, sn⟩ := haltBegins_blocks (change s)
    rw [begins]
    exact ⟨by rw [sn], by rw [sn], queue, by rw [sn], by simp, fun _ _ => ⟨drive, by rw [sn]⟩⟩
  · rw [ends]
    exact .of_frame (by simp) (by simp) (by simp [haltEnds, setWindows]) (by simp)
  · rw [stays]
    exact .refl _

theorem addStop_faultsStand (a : Addr) (s : State) : FaultsStand s (addStop a s) := by
  unfold addStop; split
  · exact ⟨rfl, rfl, rfl, rfl, rfl, fun _ => id⟩
  · exact .refl s

theorem removeStop_faultsStand (a : Addr) (s : State) : FaultsStand s (removeStop a s) := by
  unfold removeStop; split
  · exact ⟨rfl, rfl, rfl, rfl, rfl, fun _ => id⟩
  split
  · exact ⟨rfl, rfl, rfl, rfl, rfl, fun _ => id⟩
  · exact .refl s

theorem judgeCall_lost (source : Addr) (r : RackRecord) (s : State) :
    (judgeCall source r s).sn.counts.lost = s.sn.counts.lost := by
  unfold judgeCall; (repeat' split) <;> simp

theorem joinExpected_faultsStand (source : Addr) (body : List Byte) (u : Inlet) (s : State) :
    FaultsStand s (joinExpected source body u s) where
  faults := by rw [joinExpected_sn]
  service := by rw [joinExpected_sn]
  records := by simp
  lost := by
    rw [joinExpected_eq]; split
    · rw [judgeCall_lost]; rfl
    · rfl
  store := by simp
  stopped _ stop := ⟨by simpa using stop.1, by rw [joinExpected_sn]⟩

theorem takePass_faultsStand (source : Addr) (body : List Byte) (s : State) : FaultsStand s (takePass source body s) := by
  unfold takePass; split
  · exact driveSlot_faultsStand ..
  · exact (joinExpected_faultsStand ..).settled.trans (driveSlot_faultsStand ..)

theorem takeRecall_faultsStand (source : Addr) (n : Byte) (s : State) : FaultsStand s (takeRecall source n s) := by
  unfold takeRecall; split
  · exact driveSlot_faultsStand ..
  · refine FaultsStand.trans (FaultsStand.settled ?_) (driveSlot_faultsStand ..)
    exact .of_frame (by simp) (by simp) (by simp [dropExpected]) (by simp)

theorem takeState_faultsStand (source : Addr) (b : StateBody) (s : State) : FaultsStand s (takeState source b s) := by
  unfold takeState; split
  · exact FaultsStand.settled (.of_frame (by simp) (by simp) (by simp) (by simp))
  · exact .refl s

theorem takeCall_faultsStand (station n : Byte) (s : State) : FaultsStand s (takeCall station n s) := by
  unfold takeCall; split
  · refine FaultsStand.settled ?_
    unfold storeCall; (repeat' split) <;> exact .of_frame rfl rfl rfl rfl
  · exact .refl s

theorem takeSettled_faultsStand (station n : Byte) (s : State) : FaultsStand s (takeSettled station n s) := by
  unfold takeSettled; split
  · exact .refl s
  split
  · exact FaultsStand.settled (.of_frame rfl rfl rfl rfl)
  · exact .refl s

theorem takeSetup_faultsStand {effect : State → State} (h : ∀ s, FaultsStand s (effect s)) (source : Addr) (s : State) :
    FaultsStand s (takeSetup source effect s) := by
  unfold takeSetup; split
  · exact (h s).trans (driveSlot_faultsStand ..)
  · exact driveSlot_faultsStand ..

theorem decideWrite_faultsStand (source target : Addr) (item : Byte) (value : Word16) (s : State) :
    FaultsStand s (decideWrite source target item value s) := by
  unfold decideWrite; split
  · refine .trans ?_ (sendFrame_faultsStand ..)
    exact .of_frame rfl rfl rfl rfl
  · exact .of_frame rfl rfl rfl rfl

/-- The owner of any kind but CLEAR and ASK leaves the faults. -/
theorem deliver_faultsStand {f : Frame} (clear : f.kind ≠ .clear) (ask : f.kind ≠ .ask) (s : State) :
    FaultsStand s (deliver f s) := by
  unfold deliver
  match kind : f.kind with
  | .stop => exact (changeTerms_faultsStand (addStop_faultsStand ..)).settled
  | .go => exact (changeTerms_faultsStand (removeStop_faultsStand ..)).settled
  | .pass => exact takePass_faultsStand ..
  | .recall => exact takeRecall_faultsStand ..
  | .answer => exact takeSettled_faultsStand ..
  | .decline => exact takeSettled_faultsStand ..
  | .call => exact takeCall_faultsStand ..
  | .state => exact takeState_faultsStand ..
  | .ask => exact absurd kind ask
  | .clear => exact absurd kind clear
  | .setupEnable => exact takeSetup_faultsStand (effect := enableWrite) (fun u => .of_frame rfl rfl rfl rfl) ..
  | .setupWrite => exact takeSetup_faultsStand (fun u => decideWrite_faultsStand ..) ..
  | .setupRead => exact takeSetup_faultsStand (fun u => sendFrame_faultsStand ..) ..
  | .notice => exact .refl s
  | .reply => exact .refl s
  | .reserved => exact .refl s

theorem takeGood_faultsStand {f : Frame} (clear : f.kind ≠ .clear) (ask : f.kind ≠ .ask) (s : State) :
    FaultsStand s (takeGood f s) := by
  have delivered := deliver_faultsStand clear ask s
  unfold takeGood; split
  · split
    · exact driveSlot_faultsStand ..
    · exact .refl s
  split
  · exact delivered
  split
  · unfold deliverAtSetup; split
    · exact delivered
    · exact .refl s
  · exact .refl s

/-- A frame with the node's own number is tested for it and then taken (R149). -/
theorem receiveFrame_duplicate {f : Frame} {s : State} (hearing : Hearing s) (own : ownZone s = some f.source)
    (kind : f.kind ≠ .reserved) (length : lengthAllowed f.kind f.body.length = true) :
    receiveFrame f s = takeGood f (latchFault .duplicateZone 0 0 (BitVec.ofNat 16 (kindCode f.kind)) (frameHeard s)) := by
  obtain ⟨⟨-, inUse⟩, hears⟩ := hearing
  simp [receiveFrame, hears, length, acceptGood, kind, inUse, testDuplicate, own]

/-- Settles O31: what the detection latches stands when its frame is taken. -/
theorem ownNumberHeardIsADuplicate : Obligations.OwnNumberHeardIsADuplicate := by
  intro c f s received hearing own kind clear ask length
  let u := latchFault .duplicateZone 0 0 (BitVec.ofNat 16 (kindCode f.kind)) (frameHeard s)
  have unbinds : WashProofs.OnlyUnbinds (frameHeard s) u := WashProofs.latchFault_onlyUnbinds ..
  have faults : u.sn.faults = _ := WashProofs.latchFault_faults ..
  have stands : FaultsStand u (takeGood f u) := takeGood_faultsStand clear ask u
  have records : u.zq.queue.length = s.zq.queue.length := by
    have := congrArg List.length unbinds.records
    simpa using this
  refine ⟨takeGood f u, ?_, fun fresh => ⟨?_, fun working => ?_⟩, fun l latched => ?_, stands.records.trans records,
    stands.lost.trans (congrArg _ unbinds.counts), stands.store.trans (by simp [u])⟩
  · rw [EnquiryProofs.exec_received received]
    exact next_running hearing.1.1 (receiveFrame_duplicate hearing own kind length)
  · rw [stands.faults, faults, if_neg (by simp [latched?, fresh])]
    rfl
  · obtain ⟨faulted, quiet, dc⟩ := latchFault_enters (k := .duplicateZone) (s := frameHeard s) fresh (by simp) working 0 0
      (BitVec.ofNat 16 (kindCode f.kind))
    exact ⟨stands.service.trans faulted, stands.stopped faulted ⟨by rw [dc], quiet⟩⟩
  · have same : u = frameHeard s := latchFault_latched (k := .duplicateZone) (s := frameHeard s) latched ..
    rw [stands.faults, stands.service, same]
    exact ⟨rfl, rfl⟩

end Sys2Proof.EventProofs
end

section
/-! The time base: what an expiry does, and which expiries are due (R8). -/

namespace Sys2Proof.EventProofs
open Sys2Proof.Machine
open Sys2Proof.LineProofs (next_running)

/-! # An expiry is taken at its moment (R8) -/

/-- A condition that an expiry waits for besides its timer. -/
theorem onExpiry_ite (p : Prop) [Decidable p] (timer : Option Timer) (effect : State → State) (s : State) :
    onExpiry (if p then timer else none) effect s = if p then onExpiry timer effect s else s := by
  split <;> rfl

/-- An expiry acts by its timer alone: TB has no bearing on which timer that is, nor on its effect. -/
theorem expiry_effect {c : Instr} {s : State} (awake : Awake s) (expiry : isExpiry c = true) :
    ∃ effect : State → State, ∀ tb : Time,
      exec c { s with tb := tb } = .next (onExpiry (timerOf c s) effect { s with tb := tb }) := by
  have running {f : State → State} {tb : Time} {t : State} (h : f { s with tb := tb } = t) :
      (Host.Outcome.next (whileRunning f { s with tb := tb }) : Answer) = .next t := next_running awake h
  cases c with
  | startHoldExpiry => exact ⟨_, fun tb => running rfl⟩
  | quietTimerExpiry => exact ⟨_, fun tb => running (onExpiry_ite ..).symm⟩
  | estopReleaseExpiry => exact ⟨_, fun tb => running rfl⟩
  | stopRepeatExpiry => exact ⟨_, fun tb => running rfl⟩
  | tagReadWindowExpiry => exact ⟨_, fun tb => running rfl⟩
  | arrivalWindowExpiry n =>
    cases entry : s.zq.expected[n]? with
    | none => exact ⟨id, fun tb => running (by simp [timerOf, entry])⟩
    | some e => exact ⟨fun s => settle (loseExpected n s), fun tb => running (by simp [timerOf, entry])⟩
  | holdOffExpiry => exact ⟨_, fun tb => running rfl⟩
  | diverterTravelExpiry => exact ⟨_, fun tb => running (onExpiry_ite ..).symm⟩
  | releaseLimitExpiry => exact ⟨_, fun tb => running (onExpiry_ite ..).symm⟩
  | runOnExpiry => exact ⟨_, fun tb => running rfl⟩
  | neighbourSilenceExpiry z =>
    cases entry : neighbour? s z with
    | none =>
      have absent (tb : Time) : neighbour? { s with tb := tb } z = none := entry
      exact ⟨id, fun tb => running (by simp [timerOf, entry, absent])⟩
    | some n =>
      have found (tb : Time) : neighbour? { s with tb := tb } z = some n := entry
      exact ⟨fun s => settle (loseNeighbour z s), fun tb => running (by simp [timerOf, entry, found])⟩
  | statePeriodExpiry => exact ⟨_, fun tb => running rfl⟩
  | sampleCompletion p q => exact ⟨_, fun tb => running rfl⟩
  | callRepeatExpiry n =>
    have sameRole (tb : Time) : role { s with tb := tb } = role s := rfl
    have sameCall (tb : Time) : callOfSerial n { s with tb := tb } = callOfSerial n s := rfl
    by_cases load : role s = .load
    · cases entry : callOfSerial n s with
      | none => exact ⟨id, fun tb => running (by simp [timerOf, sameRole, sameCall, load, entry])⟩
      | some e => exact ⟨repeatCall e, fun tb => running (by simp [timerOf, sameRole, sameCall, load, entry])⟩
    · refine ⟨id, fun tb => running ?_⟩
      simp only [timerOf, sameRole, if_neg load]
      split
      · contradiction
      · rfl
  | callExpiry st n =>
    have sameRole (tb : Time) : role { s with tb := tb } = role s := rfl
    by_cases spur : role s = .spur
    · cases entry : s.cl.calls.find? (fun e => e.key == { station := st, serial := n }) with
      | none => exact ⟨id, fun tb => running (by simp [timerOf, sameRole, spur, entry])⟩
      | some e =>
        exact ⟨fun s => settle (expireCall e.key s), fun tb => running (by simp [timerOf, sameRole, spur, entry])⟩
    · refine ⟨id, fun tb => running ?_⟩
      simp only [timerOf, sameRole, if_neg spur]
      split
      · contradiction
      · rfl
  | noticeRepeatExpiry k =>
    cases entry : latched? s.sn.faults k with
    | none => exact ⟨id, fun tb => running (by simp [timerOf, entry])⟩
    | some f => exact ⟨repeatNotice k f, fun tb => running (by simp [timerOf, entry])⟩
  | setupWindowExpiry => exact ⟨_, fun tb => running rfl⟩
  | writeCycleCompletion =>
    cases entry : s.ss.cycle with
    | none => exact ⟨id, fun tb => running (by simp [timerOf, entry])⟩
    | some w => exact ⟨completeWrite w, fun tb => running (by simp [timerOf, entry])⟩
  | _ => simp [isExpiry] at expiry

theorem reachExpiry_tb (t : Timer) (s : State) : reachExpiry t s = { s with tb := (reachExpiry t s).tb } := by
  unfold reachExpiry; split <;> rfl

theorem reachExpiry_eq (t : Timer) (s : State) : reachExpiry t s =
    if t.duration ≤ (s.tb - t.start).toNat then s else { s with tb := t.start + BitVec.ofNat 32 t.duration } :=
  if_congr (by simp [Timer.due]) rfl rfl

/-- Settles O3: to reach the moment of an expiry and then take it is to take it. -/
theorem expiryIsTakenAtItsMoment : Obligations.ExpiryIsTakenAtItsMoment := by
  intro c s awake expiry
  obtain ⟨effect, acts⟩ := expiry_effect awake expiry
  refine ⟨fun stopped => ?_, fun t runs => ?_⟩
  · exact (acts s.tb).trans (by rw [stopped]; rfl)
  · have now : exec c s = .next (effect (reachExpiry t s)) := (acts s.tb).trans (by rw [runs]; rfl)
    have then_ : exec c (reachExpiry t s) = .next (effect (reachExpiry t (reachExpiry t s))) := by
      rw [reachExpiry_tb, acts, runs, ← reachExpiry_tb]
      rfl
    rw [← reachExpiry_eq, then_, reachExpiry_idem, now]

/-! # The expiries that are due (R8) -/

/-- A timer that runs has its command among those the time base looks at. -/
theorem expiry_listed {c : Instr} {s : State} {m : Timer} (runs : timerOf c s = some m)
    (codes : ∀ probe current, c = .sampleCompletion probe current →
      probe = Config.probeInput s.tb ∧ current = Config.currentInput s.tb) : c ∈ singleTimers s ++ entryTimers s := by
  have single (h : c ∈ singleTimers s) : c ∈ singleTimers s ++ entryTimers s := List.mem_append_left _ h
  have entry (h : c ∈ entryTimers s) : c ∈ singleTimers s ++ entryTimers s := List.mem_append_right _ h
  cases c with
  | startHoldExpiry | quietTimerExpiry | estopReleaseExpiry | stopRepeatExpiry | tagReadWindowExpiry | holdOffExpiry
  | diverterTravelExpiry | releaseLimitExpiry | runOnExpiry | statePeriodExpiry | setupWindowExpiry
  | writeCycleCompletion => exact single (by simp [singleTimers])
  | sampleCompletion probe current =>
    obtain ⟨rfl, rfl⟩ := codes _ _ rfl
    exact single (by simp [singleTimers])
  | noticeRepeatExpiry k => cases k <;> exact single (by simp [singleTimers])
  | arrivalWindowExpiry n =>
    obtain ⟨e, place, -⟩ := Option.bind_eq_some_iff.1 runs
    have inRange : n < s.zq.expected.length := (List.getElem?_eq_some_iff.1 place).1
    exact entry (by simp [entryTimers, callTimers, inRange])
  | neighbourSilenceExpiry z =>
    obtain ⟨n, found, -⟩ := Option.bind_eq_some_iff.1 runs
    have named : n.zone = z := by simpa using List.find?_some found
    have member : n ∈ s.nt.entries := List.mem_of_find?_eq_some found
    exact entry (by simpa [entryTimers, callTimers] using ⟨n, member, named⟩)
  | callRepeatExpiry n =>
    simp only [timerOf] at runs
    split at runs
    · obtain ⟨e, found, -⟩ := Option.bind_eq_some_iff.1 runs
      have named : e.key.serial = n := by simpa using List.find?_some found
      have member : e ∈ s.cl.calls := List.mem_of_find?_eq_some found
      exact entry (by simpa [entryTimers, callTimers] using ⟨e, member, named.symm⟩)
    · contradiction
  | callExpiry st n =>
    simp only [timerOf] at runs
    split at runs
    · obtain ⟨e, found, -⟩ := Option.bind_eq_some_iff.1 runs
      have named : e.key = { station := st, serial := n } := by simpa using List.find?_some found
      have member : e ∈ s.cl.calls := List.mem_of_find?_eq_some found
      exact entry (by simpa [entryTimers, callTimers] using ⟨e, member, by simp [named]⟩)
    · contradiction
  | _ => simp [timerOf] at runs

/-- Of the commands of a sample the time base looks at the one with the codes its channels deliver (log entry 4). -/
theorem listed_codes {probe current : AdcCode} {s : State}
    (h : Instr.sampleCompletion probe current ∈ singleTimers s ++ entryTimers s) :
    probe = Config.probeInput s.tb ∧ current = Config.currentInput s.tb := by
  simpa [singleTimers, entryTimers, callTimers] using h

theorem mem_dueExpiries {c : Instr} {s : State} : c ∈ dueExpiries s ↔ Awake s
    ∧ (∃ m, timerOf c s = some m ∧ m.duration ≤ (s.tb - m.start).toNat)
    ∧ ∀ probe current, c = .sampleCompletion probe current →
        probe = Config.probeInput s.tb ∧ current = Config.currentInput s.tb := by
  have due : (timerOf c s).any (·.due s.tb) = true
      ↔ ∃ m, timerOf c s = some m ∧ m.duration ≤ (s.tb - m.start).toNat := by
    simp [Option.any_eq_true, Timer.due]
  unfold dueExpiries
  split
  · rename_i held
    simp [Awake, held]
  · rename_i awake
    rw [List.mem_filter, due]
    constructor
    · rintro ⟨listed, m, runs, reached⟩
      refine ⟨by simpa using awake, ⟨m, runs, reached⟩, ?_⟩
      rintro probe current rfl
      exact listed_codes listed
    · rintro ⟨-, ⟨m, runs, reached⟩, codes⟩
      exact ⟨expiry_listed runs codes, m, runs, reached⟩

/-- The time base takes one of several due expiries. -/
theorem idle_due {s : State} (h : dueExpiries s ≠ []) : ∃ c ∈ dueExpiries s, idle s = exec c s := by
  unfold idle
  split
  · contradiction
  · rename_i c due
    exact ⟨c, by simp [due], rfl⟩
  · rename_i c rest _ due
    refine ⟨_, ?_, rfl⟩
    have inRange : Config.firstDue s.tb (rest.length + 1) % (rest.length + 1) < (c :: rest).length :=
      Nat.mod_lt _ (Nat.succ_pos _)
    rw [due, List.getD_eq_getElem _ _ inRange]
    exact List.getElem_mem inRange

theorem step_idle {s : State} (h : s.pending = []) : step s = idle s := by
  unfold step; split
  · rfl
  · simp_all

/-- Settles O2: the due expiries are a filter of the listed ones, and one that is due is listed. -/
theorem emptyQueueGivesTheTimeBaseItsStep : Obligations.EmptyQueueGivesTheTimeBaseItsStep := by
  intro s
  refine ⟨fun c => mem_dueExpiries, fun empty none => ?_, fun empty due => ?_⟩
  · rw [step_idle empty, idle, none]
    rfl
  · rw [step_idle empty]
    exact idle_due due

end Sys2Proof.EventProofs
end
